-- ==== Sys2Proof/Word.lean ====
section
/-! DEFINITION. The words of the TF-64: bytes, 16-bit and 32-bit wire fields, byte strings and slot numbers (R175, section 5.5 of
spec/00_scope.md). Fields of frames are bit vectors; amounts, counts and times inside the part are natural numbers. -/

namespace Sys2Proof

/-- A byte of a frame (R175, fields of 1 byte). -/
abbrev U8 := BitVec 8

/-- A field of 2 bytes: check number, table number, tender id (R175). -/
abbrev U16 := BitVec 16

/-- A field of 4 bytes: amounts, counts, clock values, seat sets (R175). -/
abbrev U32 := BitVec 32

/-- A string of bytes, in the order sent. -/
abbrev Bytes := List U8

/-- A terminal position, line × 16 + position (section 5.5 of the scope file). -/
abbrev Slot := Fin 64

end Sys2Proof
end

