-- ==== Sys2Proof/Config.lean ====
section
/-! DEFINITION. What the part fixes (its capacities, from the block table of spec/00_scope.md and the chapters) and the FREE
VALUES: what the spec leaves open and the machine still does. A free value has no body, so nothing can be proved of it; each names
its row of notes/assumptions. -/

namespace Sys2Proof.Config

/-- Check records (R1). -/
def maxChecks : Nat := 128
/-- Line entries of the shared pool (R2). -/
def linePoolSize : Nat := 4096
/-- Lines one check may hold (R2). -/
def maxLines : Nat := 96
/-- The greatest total due (R5). -/
def maxTotal : Nat := 99999999
/-- Tender entries (R43). -/
def maxTenders : Nat := 48
/-- Tenders of one check in the pool (R43). -/
def maxTendersPerCheck : Nat := 8
/-- Closed-list entries (R46). -/
def closedSize : Nat := 16
/-- Forward entries and forward rooms (R76). -/
def forwardSize : Nat := 64
/-- Waiting requests of the store write list (R144). -/
def storeListSize : Nat := 8
/-- Places of the outbound queue (R171). -/
def queuePlaces : Nat := 64
/-- Places taken at which a notice is dropped (R171). -/
def noticeLimit : Nat := 56
/-- Places taken at which the close list waits (R183). -/
def closeListLimit : Nat := 48
/-- Record positions of one journal bank (section 6.1). -/
def bankSize : Nat := 512
/-- The value one past the last 32-bit number: a numbering that has reached it is exhausted (R80, R119). -/
def exhausted : Nat := 4294967296
/-- The last value of the seconds clock (R141). -/
def clockTop : Nat := 4294967295
/-- The value a shift total is held at (R181). -/
def totalTop : Nat := 1099511627775

/-- Enumeration values the spec puts on the wire and gives no code in R175 (log 10). -/
inductive UnlistedCode
  | summaryPart
  | causeFailedBank | causeNoLine
  | requestNone | requestSetting | requestAppend | requestFree
  | bankTestRunning | bankTestDone
  | bankUntested | bankPass | bankFail
  | driveIdle | driveDue | driveDriving
  | fillNone | fillFirstHalf | fillSecondHalf
  | injectMasked | injectCaptured | injectFlagged
  deriving DecidableEq, Repr

/-- DESIGN CHOICE (log 10): the code of an enumeration value that R175 does not list is free. -/
opaque unlistedCode : UnlistedCode → U8

/-- DESIGN CHOICE (log 10): how far the code of LINES lies above the code of SUMMARY; the two differ. -/
opaque linesCodeGap : Fin 255

/-- The part code of CHECK QUERY for SUMMARY (R13; its value is free, log 10). -/
def summaryCode : U8 := unlistedCode .summaryPart

/-- The part code of CHECK QUERY for LINES (R13; its value is free, log 10). -/
def linesCode : U8 := summaryCode + BitVec.ofNat 8 (linesCodeGap.val + 1)

/-- DESIGN CHOICE (log 5): where a reply stands among the notices queued at its own event, where no rule orders them. -/
opaque replyPlace : Nat → Nat

/-- DESIGN CHOICE (log 6): which empty room a forward append takes when there are several (R145 says "an empty room"). -/
opaque appendRoom : Nat → Nat

/-- DESIGN CHOICE (log 7): whether a failed append leaves its room reading as before (true) or failing its checksum (false). -/
opaque failedAppendLeavesRoom : Nat → Bool

/-- DESIGN CHOICE (log 8): the bytes of a record read from a failed bank, which the part does not vouch for (R118). -/
opaque unvouchedByte : Nat → Nat → U8

/-- DESIGN CHOICE (log 9): whether another hub holds SNAP low while this hub does not drive it (R132). -/
opaque snapHeldLow : Nat → Bool

/-- DESIGN CHOICE (log 49): whether an edge of RESET# that waits right behind a RESET fell at the same moment (R149). -/
opaque edgeAtReset : Nat → Bool

/-- DESIGN CHOICE (log 22): whether the SLOT PRESENCE notice of a WAKE from a LOST slot carries the new terminal id (R94 against
R95). -/
opaque lostWakeCarriesNewId : Bool

/-- DESIGN CHOICE (log 23): the mark "intake hold was set" of a freezing snapshot when the hold was already on (R126, R127). -/
opaque freezeMarkWhenHeld : Bool

/-- DESIGN CHOICE (log 24): what a SNAP sync byte outside 0 and 1 asks for (R124, R175). -/
opaque unlistedSync : U8 → Bool

end Sys2Proof.Config
end

