-- ==== Sys2Proof/Syntax.lean ====
section
/-! DEFINITION. The commands of the TF-64: one constructor per row of spec/opcode_table.json. A host command carries its tag and the
fields of its body in the order and widths of R175 to R177; a terminal message carries its slot and its fields (R178); an event
carries what the spec leaves to the outside world; durations have only their ends here (log 29). Values outside their ranges are
commands too: the owning block answers them. -/

namespace Sys2Proof

/-- A split plan as a command carries it (R176): the form, k, then seat groups or fixed amounts. -/
structure PlanBytes where
  form : U8
  k : U8
  items : List U32
  deriving DecidableEq, Repr

/-- The part CHECK QUERY names (R13). The spec gives the two parts no code, so a part is named by itself and any other code by its
byte (log 10). -/
inductive QueryPart
  | summary
  | lines
  | other (code : U8)
  deriving DecidableEq, Repr

/-- Where a loss of power met the store write in progress (R143, R145): the unit stands as it was, is damaged, or is whole as
written (log 20). -/
inductive PowerCut
  | before
  | damaged
  | after
  deriving DecidableEq, Repr

inductive Instr
  -- power, reset and the timebase
  | powerOn
  | bankTest (pass : Bool)
  | resetPinFall
  | resetPinRise
  | clockStep
  | authExpiry (tender : U16)
  -- the radio side
  | superframeBoundary
  | fillHalf
  | downlinkTurn (slot : Slot)
  | echoTurn (slot : Slot)
  | presenceReport (slot : Slot) (inRange : Bool)
  | wake (slot : Slot) (terminalId : Bytes)
  | pick (slot : Slot)
  | present (slot : Slot) (share : U8) (part : U32) (tipKind : U8) (tipValue : U32) (token : Bytes) (method tag : U8)
  | cancel (slot : Slot) (tag : U8)
  | ack (slot : Slot) (item : U8)
  | echo (slot : Slot) (pattern : Bytes)
  | snapLineFallingEdge
  -- the server line
  | serverByte (byte : U8)
  | gapTimerExpiry
  | heldCommandDispatch
  | frameSent
  -- the store
  | settingWriteComplete
  | settingWriteFail
  | forwardAppendComplete
  | forwardAppendFail
  | forwardFreeComplete
  | forwardFreeFail
  -- host commands: the Check Table
  | openCheck (tag : U8) (check table : U16) (covers mode : U8) (plan : Option PlanBytes)
  | addItem (tag : U8) (check : U16) (price : U32) (quantity taxClass : U8) (seats : U32)
  | voidItem (tag : U8) (check : U16) (line : U8)
  | setSplit (tag : U8) (check : U16) (plan : PlanBytes)
  | setCovers (tag : U8) (check : U16) (covers : U8)
  | checkQuery (tag : U8) (check : U16) (part : QueryPart) (firstLine : U8)
  | closeCheck (tag : U8) (check : U16)
  | voidCheck (tag : U8) (check : U16)
  -- host commands: the Tender Pool and Uplink Control
  | authResult (tag : U8) (tender : U16) (outcome : U8) (approved : U32) (code : Bytes) (reason : U8)
  | tenderQuery (tag : U8) (tender : U16)
  | uplinkState (tag : U8) (state : U8)
  | forwardResult (tag : U8) (number : U32) (outcome reason : U8)
  | forwardRestart (tag : U8)
  | forwardQuery (tag : U8) (position : U32)
  -- host commands: the Slot Route Map
  | routeSlot (tag : U8) (slot mode : U8) (check : U16) (text : Bytes)
  | routeFill (tag : U8) (mode : U8) (check : U16) (text : Bytes)
  | probeSlot (tag : U8) (slot : U8) (frames : U32)
  | slotQuery (tag : U8) (first : U8)
  -- host commands: the Journal
  | snap (tag : U8) (kind : U8) (depth start : U32) (sync : U8)
  | dumpRead (tag : U8)
  | journalStatus (tag : U8)
  -- host commands: Run Control and the Setting Store
  | setRun (tag : U8) (state : U8)
  | intakeHold (tag : U8) (value : U8)
  | timeSet (tag : U8) (clock : U32)
  | runQuery (tag : U8)
  | settingRead (tag : U8) (setting : U8)
  | settingWrite (tag : U8) (setting : U8) (value : U32)
  | reset (tag : U8)
  -- host commands: Fault Capture
  | faultRead (tag : U8)
  | faultClear (tag : U8) (cls : U8)
  | faultMask (tag : U8) (code mask cls : U8)
  | faultInject (tag : U8) (code : U8)
  -- host commands: the shift
  | shiftQuery (tag : U8) (first : U8)
  | shiftClose (tag : U8)
  -- the supply and a raw radio frame
  | lossOfPower (cut : PowerCut)
  | badUplinkFrame (slot : Slot) (frame : Bytes)
  deriving DecidableEq, Repr

end Sys2Proof
end

