-- ==== Sys2Proof/WellFormed.lean ====
section
/-! DEFINITION. Which commands a frame can spell: the byte strings a command carries have the lengths of R176 to R178, and a split
plan carries as many items as its form and k require (R176). Field VALUES are not judged here; the owning block judges them. -/

namespace Sys2Proof

/-- The number of 4-byte items a plan of this form and k requires (R176). -/
def planItems (form k : U8) : Nat :=
  if form = 2 then k.toNat else if form = 3 then k.toNat - 1 else 0

/-- A plan carries the items its form and k require (R176); an OPEN CHECK's body has no room for 255 of them (log 55). -/
def PlanBytes.wf (p : PlanBytes) : Bool := p.items.length == planItems p.form p.k

/-- A part code of another value than the two parts (R13). -/
def QueryPart.wf : QueryPart → Bool
  | .summary => true
  | .lines => true
  | .other b => b != Config.summaryCode && b != Config.linesCode

/-- The command's byte strings have the lengths its frame requires. The plan of an OPEN CHECK has at most 254 items, since a body has
at most 1,024 bytes (R165; log 55). -/
def Instr.wf : Instr → Bool
  | .wake _ terminalId => terminalId.length == 8
  | .present _ _ _ _ _ token _ _ => token.length == 16
  | .echo _ pattern => pattern.length == 32
  | .openCheck _ _ _ _ _ plan => plan.all fun p => p.wf && p.items.length ≤ 254
  | .setSplit _ _ plan => plan.wf
  | .checkQuery _ _ part _ => part.wf
  | .authResult _ _ _ _ code _ => code.length == 6
  | .routeSlot _ _ _ _ text => text.length == 32
  | .routeFill _ _ _ text => text.length == 32
  | .badUplinkFrame _ frame => frame.length ≤ 48
  | .powerOn | .bankTest _ | .resetPinFall | .resetPinRise | .clockStep | .authExpiry _ | .superframeBoundary | .fillHalf
  | .downlinkTurn _ | .echoTurn _ | .presenceReport _ _ | .pick _ | .cancel _ _ | .ack _ _ | .snapLineFallingEdge
  | .serverByte _ | .gapTimerExpiry | .heldCommandDispatch | .frameSent | .settingWriteComplete | .settingWriteFail
  | .forwardAppendComplete | .forwardAppendFail | .forwardFreeComplete | .forwardFreeFail | .addItem .. | .voidItem ..
  | .setCovers .. | .closeCheck .. | .voidCheck .. | .tenderQuery .. | .uplinkState .. | .forwardResult .. | .forwardRestart _
  | .forwardQuery .. | .probeSlot .. | .slotQuery .. | .snap .. | .dumpRead _ | .journalStatus _ | .setRun .. | .intakeHold ..
  | .timeSet .. | .runQuery _ | .settingRead .. | .settingWrite .. | .reset _ | .faultRead _ | .faultClear .. | .faultMask ..
  | .faultInject .. | .shiftQuery .. | .shiftClose _ | .lossOfPower _ => true

end Sys2Proof
end

