-- ==== Sys2Proof/Decode.lean ====
section
/-! DEFINITION. The commands that a word of spec/opcode_table.json spells: no row of this table gives bits (every row's fields are
empty), so a word spells none. The frames that spell commands on the server line (R165, R176) and on the radio lines (R178) are
read in Sys2Proof/Machine/Operands.lean. -/

namespace Sys2Proof

/-- The command a word spells by the table's bits: none, since the table gives no row any bits. -/
def decodeTableWord (_nbits _w : Nat) : Option Instr := none

end Sys2Proof
end

