-- ==== Sys2Proof/Machine/Bytes.lean ====
section
/-! DEFINITION. Byte strings: little-endian fields (section 5.4 of the scope file), the CRC of R165, padded text. -/

namespace Sys2Proof.Machine

open Sys2Proof

/-- The low n bytes of v, low byte first (section 5.4). -/
def le : Nat → Nat → Bytes
  | 0, _ => []
  | n + 1, v => BitVec.ofNat 8 v :: le n (v / 256)

/-- The number a little-endian byte string spells (section 5.4). -/
def leValue : Bytes → Nat
  | [] => 0
  | b :: rest => b.toNat + 256 * leValue rest

/-- The byte at an offset of a body. -/
def byteAt (body : Bytes) (offset : Nat) : U8 := body.getD offset 0

/-- The 2-byte field at an offset of a body (R175). -/
def field16 (body : Bytes) (offset : Nat) : U16 := BitVec.ofNat 16 (leValue ((body.drop offset).take 2))

/-- The 4-byte field at an offset of a body (R175). -/
def field32 (body : Bytes) (offset : Nat) : U32 := BitVec.ofNat 32 (leValue ((body.drop offset).take 4))

/-- The n bytes at an offset of a body. -/
def fieldBytes (body : Bytes) (offset n : Nat) : Bytes := (body.drop offset).take n

/-- One bit of the CRC register: shift left, and add 0x1021 when a 1 drops out (R165). -/
def crcShift (crc : U16) : U16 := if crc.msb then (crc <<< 1) ^^^ 0x1021 else crc <<< 1

/-- The CRC register after one more byte, most significant bit first (R165). -/
def crcByte (crc : U16) (b : U8) : U16 :=
  let x := crc ^^^ (b.zeroExtend 16 <<< 8)
  crcShift (crcShift (crcShift (crcShift (crcShift (crcShift (crcShift (crcShift x)))))))

/-- CRC-16 with polynomial 0x1021 and initial value 0xFFFF, unreflected, not inverted (R165). -/
def crc16 (data : Bytes) : U16 := data.foldl crcByte 0xFFFF

/-- The first n bytes of a string, followed by the fill byte up to n. -/
def padded (n : Nat) (fill : U8) (data : Bytes) : Bytes := data.take n ++ List.replicate (n - data.length) fill

/-- The 8 frame bytes a fault record keeps of a frame (R154). -/
def frameBytes (frame : Bytes) : Bytes := padded 8 0 frame

/-- ASCII text (section 5.4). -/
def ascii (text : List Char) : Bytes := text.map fun c => BitVec.ofNat 8 c.toNat

/-- A 32-byte text field, padded with spaces (R175). -/
def text32 (text : List Char) : Bytes := padded 32 0x20 (ascii text)

/-- Six spaces: the approval code that is absent (R175). -/
def noCode : Bytes := List.replicate 6 0x20

/-- A terminal id field, spaces when absent (R96, R175). -/
def idField (id : Option Bytes) : Bytes := padded 8 0x20 (id.getD [])

/-- A true/false field (R175). -/
def flag (b : Bool) : Bytes := [if b then 1 else 0]

/-- A total in its high part and its low part (R181). -/
def highLow (total : Nat) : Bytes := le 4 (total / 4294967296) ++ le 4 (total % 4294967296)

/-- The value of one character of an approval code (R179): space 0, digits 1..10, capitals 11..36. -/
def codeValue (c : U8) : Nat :=
  if 0x30 ≤ c.toNat ∧ c.toNat ≤ 0x39 then c.toNat - 0x30 + 1
  else if 0x41 ≤ c.toNat ∧ c.toNat ≤ 0x5A then c.toNat - 0x41 + 11
  else 0

/-- An approval code as a number, base 37, the first character highest (R179). -/
def codeNumber (code : Bytes) : Nat := code.foldl (fun n c => n * 37 + codeValue c) 0

/-- A character an approval code may hold: a space, a digit or a capital letter (R168). -/
def codeChar (c : U8) : Bool :=
  c == 0x20 || (0x30 ≤ c.toNat && c.toNat ≤ 0x39) || (0x41 ≤ c.toNat && c.toNat ≤ 0x5A)

end Sys2Proof.Machine
end

