-- ==== Sys2Proof/Machine/State.lean ====
section
/-! DEFINITION. The state of the TF-64, block by block as section 3 of spec/00_scope.md lists them, its reasons for stopping (it has
none of its own), and the state right after reset. INVENTORY.md gives the rule that names each field. -/

namespace Sys2Proof.Machine

open Sys2Proof

/-- Reasons to stop with a fault. The spec gives the part no state in which it stops: its fault codes are records it keeps and
reports (spec/08_fault_capture.md), and each is a next state. No constructor, so no meaning can stop with a fault (safe). -/
inductive Fault : Type
  deriving DecidableEq, Repr

/-- Reasons to refuse a command. -/
inductive Refusal
  /-- Raised by an arm of exec whose instruction has no meaning yet; no arm raises it in this model (safe). -/
  | notModelled (mnemonic : String)
  deriving DecidableEq, Repr

/-! ### Check Table (chapter 1) -/

/-- Service mode of a check (section 1.1). -/
inductive ServiceMode
  | auto | on | off
  deriving DecidableEq, Repr

/-- States of a record in use (section 1.4); a FREE record is one the table does not list. -/
inductive CheckState
  | opened | tendering | barrier | settled
  deriving DecidableEq, Repr

/-- A line entry (section 1.2). Its line number is its place in the check's list, from 1 (R2). A seat set has seat s at bit s - 1,
and 0 is the absent set (R175). -/
structure LineEntry where
  price : Nat
  quantity : Nat
  taxClass : Nat
  seats : U32
  voided : Bool
  deriving DecidableEq, Repr

/-- A split plan (R12). -/
inductive SplitPlan
  | whole
  | even (k : Nat)
  | bySeat (groups : List U32)
  | byAmount (k : Nat) (fixed : List Nat)
  deriving DecidableEq, Repr

/-- The totals of a check (section 2.2): class subtotals, taxes, service, subtotal and total due. -/
structure Totals where
  s0 : Nat := 0
  s1 : Nat := 0
  s2 : Nat := 0
  s3 : Nat := 0
  t0 : Nat := 0
  t1 : Nat := 0
  t2 : Nat := 0
  t3 : Nat := 0
  sc : Nat := 0
  s : Nat := 0
  d : Nat := 0
  deriving DecidableEq, Repr

/-- A share record (section 1.3). Its state is PAID when paid = due (R5), see `Share.isPaid`. -/
structure Share where
  number : Nat
  group : U32 := 0
  fixed : Nat := 0
  due : Nat := 0
  paid : Nat := 0
  held : Nat := 0
  openAmt : Nat := 0
  tipsPaid : Nat := 0
  tipBase : Nat := 0
  deriving DecidableEq, Repr

/-- A check change with its parameters (section 1.6). -/
inductive Change
  | addItem (price quantity taxClass : Nat) (seats : U32)
  | voidItem (line : Nat)
  | setSplit (plan : SplitPlan)
  | setCovers (covers : Nat)
  deriving DecidableEq, Repr

/-- A change parked behind the barrier, with the tag of its command (R17). -/
structure Parked where
  change : Change
  tag : U8
  deriving DecidableEq, Repr

/-- A check record in use (section 1.1). -/
structure Check where
  number : Nat
  table : Nat
  covers : Nat
  mode : ServiceMode
  state : CheckState
  lines : List LineEntry
  plan : SplitPlan
  totals : Totals
  shares : List Share
  begun : Bool
  inPool : Nat
  parked : Option Parked
  nextReceipt : Nat
  deriving DecidableEq, Repr

/-! ### Tender Pool (chapter 3) -/

inductive EntryMethod
  | chip | tap | swipe | keyed
  deriving DecidableEq, Repr

inductive TenderState
  | awaiting | storing | ready
  deriving DecidableEq, Repr

inductive EndReason
  | posted | declined | timedOut | cancelled
  deriving DecidableEq, Repr

/-- A tender of the pool (section 3.1). The requested amount is `Tender.requested`. -/
structure Tender where
  entry : Nat
  id : Nat
  check : Nat
  share : Nat
  slot : Slot
  tag : U8
  method : EntryMethod
  token : Bytes
  part : Nat
  tip : Nat
  clamped : Bool
  hold : Nat
  state : TenderState
  cancelRequested : Bool
  ps : Nat
  pt : Nat
  code : Bytes
  deferred : Bool
  forward : Nat
  expiry : Nat
  issuedAt : Nat
  deriving DecidableEq, Repr

/-- An entry of the closed list (R46). -/
structure ClosedTender where
  id : Nat
  check : Nat
  share : Nat
  slot : Slot
  reason : EndReason
  time : Nat
  deriving DecidableEq, Repr

/-- The Tender Pool. `pool` holds the tenders in the order they were issued, so a check's issue list (R44) is its tenders in that
order. -/
structure TenderPool where
  pool : List Tender
  closed : List ClosedTender
  lastId : Nat
  deriving DecidableEq, Repr

/-! ### Uplink Control (chapter 4) -/

inductive UplinkState
  | up | down
  deriving DecidableEq, Repr

inductive SetBy
  | host | auto | reset
  deriving DecidableEq, Repr

inductive ForwardState
  | storing | unsent | sent
  deriving DecidableEq, Repr

/-- A forward entry (section 4.2). -/
structure ForwardEntry where
  number : Nat
  tender : Nat
  check : Nat
  share : Nat
  slot : Slot
  requested : Nat
  part : Nat
  tip : Nat
  method : EntryMethod
  token : Bytes
  time : Nat
  state : ForwardState
  deriving DecidableEq, Repr

structure Uplink where
  state : UplinkState
  setBy : SetBy
  count : Nat
  queue : List ForwardEntry
  exposure : Nat
  /-- `Config.exhausted` when exhausted (R80). -/
  nextForward : Nat
  backlog : List Nat
  deriving DecidableEq, Repr

/-! ### Radio Line Interface and Slot Route Map (chapter 5) -/

/-- A mode a route command gives, with its check number or text (section 5.2). -/
inductive RouteMode
  | idle
  | bound (check : Nat)
  | message (text : Bytes)
  | muted
  deriving DecidableEq, Repr

/-- The mode of a slot; PROBE keeps the saved mode (R110). -/
inductive SlotMode
  | routed (mode : RouteMode)
  | probe (saved : RouteMode)
  deriving DecidableEq, Repr

inductive Presence
  | absent | present | lost
  deriving DecidableEq, Repr

inductive OutcomeKind
  | approved | partially | declined | cancelled | noAnswer | refused
  deriving DecidableEq, Repr

/-- The fields of an OUTCOME (R67, R178). `code` is the approval code or the forward number in its six bytes. -/
structure OutcomeItem where
  kind : OutcomeKind
  tag : U8
  tender : Nat := 0
  share : Nat := 0
  part : Nat := 0
  tip : Nat := 0
  deferred : Bool := false
  clamped : Bool := false
  hostReason : Bool := false
  ps : Nat := 0
  pt : Nat := 0
  code : Bytes := List.replicate 6 0x20
  reason : U8 := 0
  unpaid : Nat := 0
  openAmt : Nat := 0
  deriving DecidableEq, Repr

/-- One share record of a SHARES display (R101). -/
structure ShareView where
  due : Nat
  openAmt : Nat
  paid : Bool
  deriving DecidableEq, Repr

/-- A display waiting at a slot: a SHOW, or the SHARES of a check (R97, R101, R178). -/
inductive Display
  | text (text : Bytes) (figure1 figure2 : Nat)
  | shares (check table : Nat) (state : CheckState) (d : Nat) (plan : List ShareView) (remainder : Option ShareView)
  deriving DecidableEq, Repr

/-- A slot route entry (section 5.2), with the model's marks for the turns of a probe (log 19) and the last frame handed to the
baseband (log 28). -/
structure SlotEntry where
  mode : SlotMode
  presence : Presence
  terminalId : Option Bytes
  inFlight : Option Nat
  outcome : Option (Nat × OutcomeItem)
  display : Option (Nat × Display)
  nextItem : Nat
  framesToSend : Nat
  framesSent : Nat
  errorBits : Nat
  missedEchoes : Nat
  pattern : BitVec 15
  /-- The probe may send: a boundary has passed since PROBE SLOT (R110). -/
  armed : Bool
  /-- The register before the PROBE frame sent in this superframe. -/
  sentNow : Option (BitVec 15)
  /-- The register before the PROBE frame whose echo turn this superframe holds, until that turn is used (R112). -/
  echoDue : Option (BitVec 15)
  postedCount : Nat
  shareTotal : Nat
  tipTotal : Nat
  /-- RDO: the last downlink frame handed to the baseband for this position. -/
  downlink : Option Bytes
  deriving DecidableEq, Repr

inductive FillState
  | none | firstHalf | secondHalf
  deriving DecidableEq, Repr

/-- The fill record (section 5.7). -/
structure FillRecord where
  state : FillState
  mode : RouteMode
  targetFreed : Bool
  filled : Nat
  skipped : List Nat
  deriving DecidableEq, Repr

structure Radio where
  slots : Vector SlotEntry 64
  fill : FillRecord
  /-- A boundary has come at which a half is due and not yet taken (R107, R108; log 18). -/
  fillDue : Bool
  /-- RSF: the lines whose strobe the last boundary marked (R90; log 28). -/
  strobes : Vector Bool 4
  deriving DecidableEq, Repr

/-! ### Journal (chapter 6) -/

inductive RecordKind
  | checkOpened | checkClosed | checkVoided | changeApplied | tenderPosted | tenderDeclined | tenderTimedOut | reversalSent
  | tenderCancelled | deferredApproved | forwardAccepted | forwardRejected | uplinkChanged | runState | timeSet | restart
  | shiftClosed | lapped | dumpEnd | empty
  deriving DecidableEq, Repr

/-- A journal record's fields (R120, R179): number, time, kind, flags and marks, and the figures. -/
structure JournalRecord where
  seq : Nat := 0
  time : Nat := 0
  kind : RecordKind
  flags : U8 := 0
  deferred : Bool := false
  clamped : Bool := false
  barrier : Bool := false
  hostReason : Bool := false
  check : Nat := 0
  tender : Nat := 0
  share : Nat := 0
  slot : Nat := 0
  amount : Nat := 0
  tip : Nat := 0
  receipt : Nat := 0
  code : Nat := 0
  deriving DecidableEq, Repr

inductive BankResult
  | untested | pass | fail
  deriving DecidableEq, Repr

inductive SnapCause
  | command | snapLine
  deriving DecidableEq, Repr

/-- An active snapshot (section 6.4); `stop` is none for an empty range. -/
structure Snapshot where
  start : Nat
  stop : Option Nat
  pointer : Nat
  lapped : Nat
  cause : SnapCause
  deriving DecidableEq, Repr

inductive SyncDrive
  | idle | due | driving
  deriving DecidableEq, Repr

/-- The Journal. `cells` lists the records the storage holds by cell, bank × 512 + place, cells strictly rising. -/
structure Journal where
  cells : List (Nat × JournalRecord)
  results : Vector BankResult 8
  base : Nat
  extent : Nat
  /-- `Config.exhausted` when exhausted (R119). -/
  next : Nat
  floor : Nat
  snapshot : Option Snapshot
  drive : SyncDrive
  deriving DecidableEq, Repr

/-! ### Run Control and Setting Store (chapters 7 and 10) -/

inductive RunState
  | halted | idle | serving
  deriving DecidableEq, Repr

inductive ResetCause
  | pin | command
  deriving DecidableEq, Repr

/-- An entry of the close list (section 10.1). -/
structure CloseEntry where
  slot : Nat
  terminalId : Option Bytes
  count : Nat
  share : Nat
  tip : Nat
  deriving DecidableEq, Repr

structure RunControl where
  state : RunState
  hold : Bool
  clock : Nat
  clockSet : Bool
  lastReset : Option ResetCause
  closeList : List CloseEntry
  deriving DecidableEq, Repr

/-- What TIP BASE selects (R39). -/
inductive TipBase
  | preTax | postTax
  deriving DecidableEq, Repr

/-- The settings, with their defaults (section 7.5). -/
structure Settings where
  taxRate0 : Nat := 0
  taxRate1 : Nat := 0
  taxRate2 : Nat := 0
  taxRate3 : Nat := 0
  serviceRate : Nat := 0
  serviceParty : Nat := 0
  tipBase : TipBase := .preTax
  tipCap : Nat := 50
  authWait : Nat := 45
  autoDownCount : Nat := 3
  offlineLimit : Nat := 10000
  exposureCap : Nat := 100000
  forwardWindow : Nat := 4
  lineEnable0 : Bool := true
  lineEnable1 : Bool := true
  lineEnable2 : Bool := true
  lineEnable3 : Bool := true
  journalBase : Nat := 0
  journalExtent : Nat := 7
  snapDepth : Nat := 256
  snapSync : Bool := false
  snapFreeze : Bool := false
  notifyNote : Bool := true
  notifyFault : Bool := true
  notifySevere : Bool := true
  injectEnable : Bool := false
  deriving DecidableEq, Repr

/-- A whole settings copy of the store (R143). -/
structure SettingsCopy where
  count : Nat
  settings : Settings
  deriving DecidableEq, Repr

/-- A forward room of the store (R143, R145): empty, with the next forward number of the free that emptied it if one did; holding a
copy with the next forward number written with it; or failing its checksum. -/
inductive Room
  | empty (next : Option Nat)
  | copy (entry : ForwardEntry) (next : Nat)
  | damaged
  deriving DecidableEq, Repr

/-- A request of the store write list (R144). -/
inductive StoreRequest
  | setting (tag : U8) (setting value named : Nat)
  | powerOnSettings
  | append (entry : ForwardEntry) (next : Nat)
  | free (number : Nat)
  deriving DecidableEq, Repr

/-- The unit a write in progress puts in the store (R145): a settings copy (the first, or the second), a room, or nothing (an append
that found no empty room). -/
inductive StoreUnit
  | settings (first : Bool) (copy : SettingsCopy)
  | room (index : Fin 64) (content : Room)
  | nothing
  deriving DecidableEq, Repr

structure WriteInProgress where
  request : StoreRequest
  unit : StoreUnit
  deriving DecidableEq, Repr

structure SettingStore where
  /-- The settings in force. -/
  settings : Settings
  /-- The two stored copies; none is a copy that is not whole. -/
  first : Option SettingsCopy
  second : Option SettingsCopy
  rooms : Vector Room 64
  waiting : List StoreRequest
  current : Option WriteInProgress
  deriving DecidableEq, Repr

/-! ### Fault Capture (chapter 8) -/

/-- The 18 fault codes, in the order of the table of section 8.1. -/
inductive FaultCode
  | hostFrameCrc | hostFrameLength | hostFrameGap | unknownKind | radioFrameBad | overApproval | authTimeout | lateResult
  | storeEntryBad | notAwaiting | noTender | noEntry | forwardRejected | uplinkAutoDown | noticeOverrun | configCheckFail
  | storeWriteFail | journalBankFail
  deriving DecidableEq, Repr

inductive FaultClass
  | note | fault | severe
  deriving DecidableEq, Repr

inductive FaultSource
  | slot (slot : Slot)
  | serverLine | uplink | store | journal | inject
  deriving DecidableEq, Repr

/-- A first-fault record (R154). -/
structure FaultRecord where
  code : FaultCode
  source : FaultSource
  bytes : Bytes
  time : Nat
  deriving DecidableEq, Repr

/-- What a class holds: its record and its further-fault flag (section 8 head). -/
structure ClassState where
  record : Option FaultRecord
  further : Bool
  deriving DecidableEq, Repr

/-- The mask and the class of one code. -/
structure CodeRule where
  masked : Bool
  cls : FaultClass
  deriving DecidableEq, Repr

structure FaultCapture where
  codes : Vector CodeRule 18
  note : ClassState
  fault : ClassState
  severe : ClassState
  /-- The model's own: the power-on settings write has failed and its STORE WRITE FAIL waits for the end of the bank test (R164;
  DEDUCED, log 66). -/
  writeFailWaits : Bool
  deriving DecidableEq, Repr

/-! ### Server Line Interface (chapter 9) -/

inductive FramerState
  | hunt | length | collect | held
  deriving DecidableEq, Repr

/-- A frame of the outbound queue: kind, tag and body (R165). -/
structure Frame where
  kind : U8
  tag : U8
  body : Bytes
  deriving DecidableEq, Repr

structure ServerLine where
  framer : FramerState
  rx : Bytes
  gapRunning : Bool
  held : Option Bytes
  queue : List Frame
  owed : Nat
  /-- STX: the last frame sent (log 28). -/
  sent : Option Frame
  deriving DecidableEq, Repr

/-! ### The whole part -/

/-- Why the part is held in reset (R151): a line reset by the pin, with the counts its RESTART record will carry (R122), or a
power-on with the pin low, released without a RESTART record. -/
inductive ResetHold
  | none
  | line (checks tenders storing : Nat)
  /-- Held by an edge at the moment of a RESET taken first, whose RESTART record is written (R149; log 49). -/
  | command
  | powerOn
  deriving DecidableEq, Repr

structure State where
  powered : Bool
  pinLow : Bool
  hold : ResetHold
  line : ServerLine
  checks : List Check
  tenders : TenderPool
  uplink : Uplink
  radio : Radio
  journal : Journal
  run : RunControl
  store : SettingStore
  faults : FaultCapture
  /-- The model's own: how many free values the step has read (log 35). -/
  freeCount : Nat
  /-- The commands that wait, first in first out. -/
  pending : List Instr
  deriving DecidableEq, Repr

def State.setHold (s : State) (x : ResetHold) : State := { s with hold := x }
def State.setLine (s : State) (x : ServerLine) : State := { s with line := x }
def State.setChecks (s : State) (x : List Check) : State := { s with checks := x }
def State.setTenders (s : State) (x : TenderPool) : State := { s with tenders := x }
def State.setUplink (s : State) (x : Uplink) : State := { s with uplink := x }
def State.setRadio (s : State) (x : Radio) : State := { s with radio := x }
def State.setJournal (s : State) (x : Journal) : State := { s with journal := x }
def State.setRun (s : State) (x : RunControl) : State := { s with run := x }
def State.setStore (s : State) (x : SettingStore) : State := { s with store := x }
def State.setFaults (s : State) (x : FaultCapture) : State := { s with faults := x }
def State.setFree (s : State) (x : Nat) : State := { s with freeCount := x }
def State.setPending (s : State) (x : List Instr) : State := { s with pending := x }

/-! ### Values after power-on -/

/-- A slot route entry after power-on or a line reset (R93). -/
def SlotEntry.start : SlotEntry where
  mode := .routed .idle
  presence := .absent
  terminalId := none
  inFlight := none
  outcome := none
  display := none
  nextItem := 1
  framesToSend := 0
  framesSent := 0
  errorBits := 0
  missedEchoes := 0
  pattern := 0
  armed := false
  sentNow := none
  echoDue := none
  postedCount := 0
  shareTotal := 0
  tipTotal := 0
  downlink := none

/-- The fill record after power-on or a line reset (R93). -/
def FillRecord.start : FillRecord := { state := .none, mode := .idle, targetFreed := false, filled := 0, skipped := [] }

/-- The route map after power-on (R93). -/
def Radio.start : Radio :=
  { slots := Vector.replicate 64 SlotEntry.start, fill := .start, fillDue := false, strobes := Vector.replicate 4 false }

/-- The tender pool after power-on (R43, R45, R46). -/
def TenderPool.start : TenderPool := { pool := [], closed := [], lastId := 0 }

/-- The uplink after power-on with an empty store (R73, R88). -/
def Uplink.start : Uplink :=
  { state := .down, setBy := .reset, count := 0, queue := [], exposure := 0, nextForward := 1, backlog := [] }

/-- The journal after power-on, with its span in force (R115). -/
def Journal.start (base extent : Nat) : Journal :=
  { cells := [], results := Vector.replicate 8 .untested, base := base, extent := extent, next := 0, floor := 0,
    snapshot := none, drive := .idle }

/-- Run Control after power-on (R134, R140, R141). -/
def RunControl.start : RunControl :=
  { state := .halted, hold := false, clock := 0, clockSet := false, lastReset := none, closeList := [] }

/-- The default classes of section 8.1, every code unmasked (R152). -/
def FaultCapture.startCodes : Vector CodeRule 18 :=
  let rule (c : FaultClass) : CodeRule := { masked := false, cls := c }
  #v[rule .note, rule .note, rule .note, rule .note, rule .note, rule .note, rule .note, rule .note, rule .note,
     rule .fault, rule .fault, rule .fault, rule .fault, rule .fault, rule .fault, rule .fault,
     rule .severe, rule .severe]

/-- Fault Capture after power-on and after a line reset (R152). -/
def FaultCapture.start : FaultCapture :=
  { codes := FaultCapture.startCodes, note := { record := none, further := false }, fault := { record := none, further := false },
    severe := { record := none, further := false }, writeFailWaits := false }

/-- The server line after power-on (R166, R173). -/
def ServerLine.start : ServerLine :=
  { framer := .hunt, rx := [], gapRunning := false, held := none, queue := [], owed := 0, sent := none }

/-- The store of a part last powered off with its settings whole, all at their defaults, and no forward copy (the store that section
10.2 starts from). DESIGN CHOICE (log 1): the spec does not say what a part's store holds before its first power-on. -/
def SettingStore.start : SettingStore :=
  { settings := {}, first := some { count := 1, settings := {} }, second := some { count := 2, settings := {} },
    rooms := Vector.replicate 64 (.empty none), waiting := [], current := none }

/-- Right after power-on (R143) over that store, every block at its start values, the bank test still running (R117). -/
def State.reset : State where
  powered := true
  pinLow := false
  hold := .none
  line := .start
  checks := []
  tenders := .start
  uplink := .start
  radio := .start
  journal := .start 0 7
  run := .start
  store := .start
  faults := .start
  freeCount := 0
  pending := []

end Sys2Proof.Machine
end

