-- ==== Sys2Proof/Machine/Flags.lean ====
section
/-! DEFINITION. The codes of R169, R174, R175, R178 and R179: reasons, enumerations, fault codes and sources, and the flag and mark
bits of the journal record. Enumeration values without a listed code take theirs from `Config.unlistedCode` (log 10). -/

namespace Sys2Proof.Machine

open Sys2Proof

/-- The reason codes of a refusal (R169). -/
inductive Reason
  | busy | state | inUse | tableFull | linesFull | totalLimit | range | noCheck | barrier | paidLock | slotBusy | noTender
  | notAwaiting | noEntry | configFault | format | unknownKind
  deriving DecidableEq, Repr

def Reason.code : Reason → U8
  | .busy => 1 | .state => 2 | .inUse => 3 | .tableFull => 4 | .linesFull => 5 | .totalLimit => 6 | .range => 7 | .noCheck => 8
  | .barrier => 9 | .paidLock => 10 | .slotBusy => 11 | .noTender => 12 | .notAwaiting => 13 | .noEntry => 14
  | .configFault => 15 | .format => 16 | .unknownKind => 17

/-- The part's reasons in an OUTCOME (R178). -/
inductive OutcomeReason
  | notServing | hold | notAssigned | slotBusy | barrier | noShare | nothingDue | checkBusy | poolFull | offlineLimit | exposure
  | forwardFull | storeBusy | keyed | store
  deriving DecidableEq, Repr

def OutcomeReason.code : OutcomeReason → U8
  | .notServing => 1 | .hold => 2 | .notAssigned => 3 | .slotBusy => 4 | .barrier => 5 | .noShare => 6 | .nothingDue => 7
  | .checkBusy => 8 | .poolFull => 9 | .offlineLimit => 10 | .exposure => 11 | .forwardFull => 12 | .storeBusy => 13
  | .keyed => 14 | .store => 15

/-! ### Enumerations of R175 -/

def ServiceMode.code : ServiceMode → U8
  | .auto => 0 | .on => 1 | .off => 2

def ServiceMode.ofCode (b : U8) : Option ServiceMode :=
  if b = 0 then some .auto else if b = 1 then some .on else if b = 2 then some .off else none

def CheckState.code : CheckState → U8
  | .opened => 1 | .tendering => 2 | .barrier => 3 | .settled => 4

def EntryMethod.code : EntryMethod → U8
  | .chip => 1 | .tap => 2 | .swipe => 3 | .keyed => 4

def EntryMethod.ofCode (b : U8) : Option EntryMethod :=
  if b = 1 then some .chip else if b = 2 then some .tap else if b = 3 then some .swipe else if b = 4 then some .keyed else none

def TenderState.code : TenderState → U8
  | .awaiting => 1 | .storing => 2 | .ready => 3

def EndReason.code : EndReason → U8
  | .posted => 4 | .declined => 5 | .timedOut => 6 | .cancelled => 7

def ForwardState.code : ForwardState → U8
  | .storing => 1 | .unsent => 2 | .sent => 3

def RouteMode.code : RouteMode → U8
  | .idle => 0 | .bound _ => 1 | .message _ => 2 | .muted => 3

def RouteMode.check : RouteMode → Nat
  | .bound c => c
  | .idle | .message _ | .muted => 0

def RouteMode.text : RouteMode → Bytes
  | .message t => padded 32 0x20 t
  | .idle | .bound _ | .muted => padded 32 0x20 []

def SlotMode.code : SlotMode → U8
  | .routed m => m.code
  | .probe _ => 4

def Presence.code : Presence → U8
  | .absent => 0 | .present => 1 | .lost => 2

def RunState.code : RunState → U8
  | .halted => 0 | .idle => 1 | .serving => 2

def RunState.ofCode (b : U8) : Option RunState :=
  if b = 0 then some .halted else if b = 1 then some .idle else if b = 2 then some .serving else none

def UplinkState.code : UplinkState → U8
  | .down => 0 | .up => 1

def SetBy.code : SetBy → U8
  | .reset => 0 | .host => 1 | .auto => 2

def FaultClass.code : FaultClass → U8
  | .note => 1 | .fault => 2 | .severe => 3

def FaultClass.ofCode (b : U8) : Option FaultClass :=
  if b = 1 then some .note else if b = 2 then some .fault else if b = 3 then some .severe else none

def Change.code : Change → U8
  | .addItem .. => 1 | .voidItem .. => 2 | .setSplit .. => 3 | .setCovers .. => 4

def SnapCause.code : SnapCause → U8
  | .command => 1 | .snapLine => 2

/-- The cause of a line reset in a RESTART record (R179). DEDUCED: RUN QUERY gives it by the same codes, and 0 for none since
power-on (log 52). -/
def ResetCause.code : ResetCause → U8
  | .pin => 1 | .command => 2

def OutcomeKind.code : OutcomeKind → U8
  | .approved => 1 | .partially => 2 | .declined => 3 | .cancelled => 4 | .noAnswer => 5 | .refused => 6

/-- The bytes of a slot set of 8 bytes (R175): slot s present when bit s is 1. -/
def slotSet (slots : List Nat) : Bytes :=
  le 8 ((List.range 64).foldl (fun n i => if slots.contains i then n + 2 ^ i else n) 0)

/-! ### Fault codes and sources (chapter 8, R180) -/

/-- The codes in the order of section 8.1. -/
def FaultCode.all : List FaultCode :=
  [.hostFrameCrc, .hostFrameLength, .hostFrameGap, .unknownKind, .radioFrameBad, .overApproval, .authTimeout, .lateResult,
   .storeEntryBad, .notAwaiting, .noTender, .noEntry, .forwardRejected, .uplinkAutoDown, .noticeOverrun, .configCheckFail,
   .storeWriteFail, .journalBankFail]

/-- The place of a code in the table of section 8.1, from 0. -/
def FaultCode.index : FaultCode → Fin 18
  | .hostFrameCrc => 0 | .hostFrameLength => 1 | .hostFrameGap => 2 | .unknownKind => 3 | .radioFrameBad => 4
  | .overApproval => 5 | .authTimeout => 6 | .lateResult => 7 | .storeEntryBad => 8 | .notAwaiting => 9 | .noTender => 10
  | .noEntry => 11 | .forwardRejected => 12 | .uplinkAutoDown => 13 | .noticeOverrun => 14 | .configCheckFail => 15
  | .storeWriteFail => 16 | .journalBankFail => 17

/-- The number of a fault code (R175). -/
def FaultCode.number (c : FaultCode) : U8 := BitVec.ofNat 8 (c.index.val + 1)

/-- The fault code a number names, if any (R175). -/
def FaultCode.ofNumber (b : U8) : Option FaultCode := if b = 0 then none else FaultCode.all[b.toNat - 1]?

def FaultSource.code : FaultSource → U8
  | .slot s => BitVec.ofNat 8 s.val
  | .serverLine => 64 | .uplink => 65 | .store => 66 | .journal => 67 | .inject => 68

/-- What a class holds, as 16 bytes (R180). -/
def ClassState.bytes (c : ClassState) (cls : FaultClass) : Bytes :=
  match c.record with
  | none => [cls.code, if c.further then 2 else 0] ++ List.replicate 14 0
  | some r =>
    [cls.code, 1 + (if c.further then 2 else 0), r.code.number, r.source.code] ++ padded 8 0 r.bytes ++ le 4 r.time

/-! ### The journal record (R179) -/

def RecordKind.code : RecordKind → U8
  | .checkOpened => 0x01 | .checkClosed => 0x02 | .checkVoided => 0x03 | .changeApplied => 0x04 | .tenderPosted => 0x05
  | .tenderDeclined => 0x06 | .tenderTimedOut => 0x07 | .reversalSent => 0x08 | .tenderCancelled => 0x09
  | .deferredApproved => 0x0A | .forwardAccepted => 0x0B | .forwardRejected => 0x0C | .uplinkChanged => 0x0D
  | .runState => 0x0E | .timeSet => 0x0F | .restart => 0x10 | .shiftClosed => 0x11 | .lapped => 0xF0 | .dumpEnd => 0xF1
  | .empty => 0xF2

/-- The 16 bits at offset 14: share number, slot and marks (R179). -/
def JournalRecord.packed (r : JournalRecord) : Nat :=
  r.share % 32 + (r.slot % 64) * 32 + (if r.deferred then 2048 else 0) + (if r.clamped then 4096 else 0)
    + (if r.barrier then 8192 else 0) + (if r.hostReason then 16384 else 0)

/-- The 32 bytes of a record (R179). A number past the last is sent as 0 (R175, exhausted mark). -/
def JournalRecord.bytes (r : JournalRecord) : Bytes :=
  le 4 r.seq ++ le 4 r.time ++ [r.kind.code, r.flags] ++ le 2 r.check ++ le 2 r.tender ++ le 2 r.packed ++ le 4 r.amount
    ++ le 4 r.tip ++ le 4 r.receipt ++ le 4 r.code

/-- The flags of an UPLINK CHANGED record: new state in bit 0, cause in bits 1 and 2 (R179). -/
def uplinkFlags (new : UplinkState) (cause : SetBy) : U8 := new.code + (cause.code <<< 1)

/-- The cause of a RUN STATE record (R179). -/
inductive RunCause
  | setRun | severeFault
  deriving DecidableEq, Repr

def RunCause.code : RunCause → U8
  | .setRun => 1 | .severeFault => 2

/-- The flags of a RUN STATE record: old state in bits 0 and 1, new state in bits 2 and 3, cause in bits 4 and 5 (R179). -/
def runFlags (old new : RunState) (cause : RunCause) : U8 := old.code + (new.code <<< 2) + (cause.code <<< 4)

end Sys2Proof.Machine
end

