-- ==== Sys2Proof/Machine/Formats.lean ====
section
/-! DEFINITION. The frames the part forms: the server-line frame (R165), replies (R169), notices (R174, R177) and the downlink frames
of the radio lines (R178). A field that holds only in some cases is sent as 0 or as spaces in the others (R177). Numbers R175 gives
no width for are sent in 4 bytes (log 11). -/

namespace Sys2Proof.Machine

open Sys2Proof

/-! ### Frames and replies -/

/-- The bytes a frame's CRC covers: length, kind, tag and body (R165). -/
def frameInner (kind tag : U8) (body : Bytes) : Bytes := le 2 (body.length + 2) ++ ([kind, tag] ++ body)

/-- A whole server-line frame (R165). -/
def frameOf (kind tag : U8) (body : Bytes) : Bytes :=
  0xA5 :: (frameInner kind tag body ++ le 2 (crc16 (frameInner kind tag body)).toNat)

/-- The frame as the line carries it. -/
def Frame.bytes (f : Frame) : Bytes := frameOf f.kind f.tag f.body

/-- What an owning block answers to a command (R169). -/
structure Reply where
  status : U8
  reason : U8
  data : Bytes
  deriving DecidableEq, Repr

def Reply.accepted (data : Bytes) : Reply := { status := 0, reason := 0, data := data }
def Reply.parked : Reply := { status := 1, reason := 0, data := [] }
def Reply.late (reason : EndReason) : Reply := { status := 2, reason := 0, data := [reason.code] }
def Reply.refused (r : Reason) : Reply := { status := 3, reason := r.code, data := [] }
def Reply.refusedWith (r : Reason) (data : Bytes) : Reply := { status := 3, reason := r.code, data := data }

/-- The frame of a reply: the command's kind plus 0x80 and its tag (R169). -/
def Reply.frame (r : Reply) (kind tag : U8) : Frame :=
  { kind := kind + 0x80, tag := tag, body := [r.status, r.reason] ++ r.data }

/-- A notice: tag 0 (R170). -/
def notice (kind : U8) (body : Bytes) : Frame := { kind := kind, tag := 0, body := body }

/-! ### Figures of a tender -/

def Tender.requested (t : Tender) : Nat := t.part + t.tip

/-- The 6 bytes that hold a tender's approval code, or its forward number followed by two zero bytes (R177, R178). -/
def Tender.codeBytes (t : Tender) : Bytes := if t.deferred then le 4 t.forward ++ [0, 0] else padded 6 0x20 t.code

/-- The 32-bit number that holds it in a journal record (R179). -/
def Tender.codeNumber (t : Tender) : Nat := if t.deferred then t.forward else Machine.codeNumber t.code

/-- The marks deferred 1 and TIP CLAMPED 2 (R177). -/
def markByte (deferred clamped hostReason : Bool) : U8 :=
  (if deferred then 1 else 0) + (if clamped then 2 else 0) + (if hostReason then 4 else 0)

def slotByte (s : Slot) : U8 := BitVec.ofNat 8 s.val

/-! ### Notices (R174) -/

/-- AUTH REQUEST (R52, R177). -/
def authRequestNotice (t : Tender) : Frame :=
  notice 0xC0 (le 2 t.id ++ le 2 t.check ++ le 1 t.share ++ [slotByte t.slot, t.method.code] ++ padded 16 0 t.token ++ le 4 t.part
    ++ le 4 t.tip ++ flag t.clamped ++ le 4 t.requested)

/-- REVERSAL REQUEST (R68, R177): reason TIMED OUT or CANCELLED. -/
def reversalNotice (t : Tender) (approved : Nat) (code : Bytes) (reason : EndReason) : Frame :=
  notice 0xC1 (le 2 t.id ++ le 2 t.check ++ le 1 t.share ++ [slotByte t.slot, t.method.code] ++ padded 16 0 t.token
    ++ le 4 t.requested ++ le 4 approved ++ padded 6 0x20 code ++ [reason.code] ++ [0, 0, 0, 0])

/-- TENDER POSTED (R65, R177), with the share's paid and open amounts after the posting. -/
def tenderPostedNotice (t : Tender) (receipt paid openAmt : Nat) : Frame :=
  notice 0xC2 (le 2 t.id ++ le 2 t.check ++ le 1 t.share ++ [slotByte t.slot] ++ le 4 t.ps ++ le 4 t.pt ++ le 4 receipt
    ++ t.codeBytes ++ [markByte t.deferred t.clamped false] ++ le 4 paid ++ le 4 openAmt)

/-- SHARE PAID (R7). -/
def sharePaidNotice (check share paid tips : Nat) : Frame := notice 0xC3 (le 2 check ++ le 1 share ++ le 4 paid ++ le 4 tips)

/-- CHECK SETTLED (R8). -/
def checkSettledNotice (check d receipts : Nat) : Frame := notice 0xC4 (le 2 check ++ le 4 d ++ le 4 receipts)

/-- CHANGE APPLIED (R19); the line number is 0 for a change other than ADD ITEM. -/
def changeAppliedNotice (check : Nat) (kind tag : U8) (d line : Nat) : Frame :=
  notice 0xC5 (le 2 check ++ [kind, tag] ++ le 4 d ++ le 1 line)

/-- CHANGE REFUSED (R19). -/
def changeRefusedNotice (check : Nat) (kind tag : U8) (reason : Reason) : Frame :=
  notice 0xC6 (le 2 check ++ [kind, tag, reason.code])

/-- FORWARD (R82, R177). -/
def forwardNotice (e : ForwardEntry) : Frame :=
  notice 0xC7 (le 4 e.number ++ le 2 e.tender ++ le 2 e.check ++ le 1 e.share ++ [slotByte e.slot] ++ le 4 e.requested
    ++ le 4 e.part ++ le 4 e.tip ++ [e.method.code] ++ padded 16 0 e.token ++ le 4 e.time)

/-- FORWARD REJECTED (R84). -/
def forwardRejectedNotice (e : ForwardEntry) (reason : U8) : Frame :=
  notice 0xC8 (le 4 e.number ++ le 2 e.tender ++ le 2 e.check ++ le 1 e.share ++ [slotByte e.slot] ++ le 4 e.requested
    ++ le 4 e.part ++ le 4 e.tip ++ le 4 e.time ++ [reason])

/-- SLOT PRESENCE (R96). -/
def slotPresenceNotice (slot : Slot) (presence : Presence) (id : Option Bytes) (check tender : Nat) : Frame :=
  notice 0xC9 ([slotByte slot, presence.code] ++ idField id ++ le 2 check ++ le 2 tender)

/-- FILL DONE (R108). -/
def fillDoneNotice (mode : RouteMode) (filled : Nat) (skipped : List Nat) : Frame :=
  notice 0xCA ([mode.code] ++ le 2 mode.check ++ le 4 filled ++ slotSet skipped)

/-- PROBE RESULT (R113). -/
def probeResultNotice (slot : Slot) (e : SlotEntry) (early : Bool) : Frame :=
  notice 0xCB ([slotByte slot] ++ idField e.terminalId ++ le 4 e.framesToSend ++ le 4 e.framesSent ++ le 4 e.errorBits
    ++ le 4 e.missedEchoes ++ flag early)

/-- The 5 bytes of a snapshot's end (R175). -/
def snapEnd : Option Nat → Bytes
  | none => [1, 0, 0, 0, 0]
  | some n => 0 :: le 4 n

/-- The records in a snapshot's range (R126). -/
def Snapshot.records (s : Snapshot) : Nat :=
  match s.stop with
  | none => 0
  | some n => n + 1 - s.start

/-- SNAPSHOT TAKEN (R129). DEDUCED: a number of 2^32 is sent as 0 (log 50). -/
def snapshotTakenNotice (s : Snapshot) (next time : Nat) (held : Bool) : Frame :=
  notice 0xCC (le 4 s.start ++ snapEnd s.stop ++ le 4 s.records ++ le 4 next ++ le 4 time ++ flag held)

/-- FAULT (R155, R180): the record just captured, its further-fault flag clear. -/
def faultNotice (cls : FaultClass) (r : FaultRecord) : Frame :=
  notice 0xCD (ClassState.bytes { record := some r, further := false } cls)

/-- SHIFT TOTALS (R183). -/
def shiftTotalsNotice (e : CloseEntry) : Frame :=
  notice 0xCE (le 1 e.slot ++ idField e.terminalId ++ highLow e.count ++ highLow e.share ++ highLow e.tip)

/-! ### Downlink frames (R178) -/

/-- A radio frame: kind, body and the CRC over both (R178). -/
def radioFrame (kind : U8) (body : Bytes) : Bytes := kind :: (body ++ le 2 (crc16 (kind :: body)).toNat)

/-- The body of an OUTCOME (R178). -/
def OutcomeItem.body (o : OutcomeItem) (item : Nat) : Bytes :=
  le 1 item ++ [o.kind.code, o.tag] ++ le 2 o.tender ++ le 1 o.share ++ le 4 o.part ++ le 4 o.tip
    ++ [markByte o.deferred o.clamped o.hostReason] ++ le 4 o.ps ++ le 4 o.pt ++ padded 6 0x20 o.code ++ [o.reason]
    ++ le 4 o.unpaid ++ le 4 o.openAmt ++ [0, 0]

/-- A share record of SHARES: due in 27 bits, open in the next 27, then the state (R178). -/
def ShareView.bytes (v : ShareView) : Bytes :=
  le 7 (v.due % 2 ^ 27 + (v.openAmt % 2 ^ 27) * 2 ^ 27 + (if v.paid then 2 ^ 54 else 0))

/-- The kind byte of a display (R178). -/
def Display.kind : Display → U8
  | .text .. => 0x82
  | .shares .. => 0x83

/-- The body of a display (R178). -/
def Display.body (d : Display) (item : Nat) : Bytes :=
  match d with
  | .text t f1 f2 => le 1 item ++ padded 32 0x20 t ++ le 4 f1 ++ le 4 f2
  | .shares check table state d plan remainder =>
    le 1 item ++ le 2 check ++ le 2 table ++ [state.code] ++ le 4 d ++ le 1 plan.length ++ flag remainder.isSome
      ++ (plan.map ShareView.bytes).flatten ++ (remainder.map ShareView.bytes).getD []

/-- A STANDBY frame, with the item numbers waiting (R98, R178). -/
def standbyFrame (slot : Slot) (e : SlotEntry) : Bytes :=
  radioFrame 0x84 ([slotByte slot] ++ le 1 ((e.outcome.map Prod.fst).getD 0) ++ le 1 ((e.display.map Prod.fst).getD 0))

/-! ### Texts of the SHOW displays (section 5.2, R52, R53, R61) -/

def textNotAssigned : Bytes := text32 ['n', 'o', 't', ' ', 'a', 's', 's', 'i', 'g', 'n', 'e', 'd']
def textCheck : Bytes := text32 ['c', 'h', 'e', 'c', 'k']
def textAuthorising : Bytes := text32 ['a', 'u', 't', 'h', 'o', 'r', 'i', 's', 'i', 'n', 'g']
def textApproving : Bytes := text32 ['a', 'p', 'p', 'r', 'o', 'v', 'i', 'n', 'g']
def textCancelling : Bytes := text32 ['c', 'a', 'n', 'c', 'e', 'l', 'l', 'i', 'n', 'g']
def textTooLate : Bytes := text32 ['t', 'o', 'o', ' ', 'l', 'a', 't', 'e']

end Sys2Proof.Machine
end

