-- ==== Sys2Proof/Machine/Ops.lean ====
section
/-! DEFINITION. The named operations every meaning is built from: journal storage and appends (chapter 6), fault raising (chapter 8),
admission to the outbound queue and replies (chapter 9), items placed at a slot (chapter 5). -/

namespace Sys2Proof.Machine

open Sys2Proof

/-! ### Journal storage (R115, R116, R119) -/

/-- The span's size (R115). -/
def Journal.size (j : Journal) : Nat := (j.extent + 1) * Config.bankSize

/-- The lowest sequence number still held (section 6, R119). -/
def Journal.oldest (j : Journal) : Nat := max j.floor (j.next - j.size)

/-- The cell of record n: place p mod 512 of the span's bank p / 512, where p = n mod size (R116). -/
def Journal.cellOf (j : Journal) (n : Nat) : Nat :=
  ((j.base + n % j.size / Config.bankSize) % 8) * Config.bankSize + n % j.size % Config.bankSize

/-- The bank a cell lies in. -/
def bankOfCell (cell : Nat) : Nat := cell / Config.bankSize

/-- The result of the test of bank b (R117). -/
def Journal.bankResult (j : Journal) (b : Nat) : BankResult := j.results.getD b .untested

/-- The canonical form of the storage: cells strictly rising. A cell not listed holds no record since power-on. -/
def cellsWf : List (Nat × JournalRecord) → Bool
  | [] => true
  | [_] => true
  | a :: b :: rest => decide (a.1 < b.1) && cellsWf (b :: rest)

/-- Write a record into a cell, keeping the form. -/
def cellsWrite (cell : Nat) (r : JournalRecord) : List (Nat × JournalRecord) → List (Nat × JournalRecord)
  | [] => [(cell, r)]
  | a :: rest =>
    if cell < a.1 then (cell, r) :: a :: rest
    else if cell = a.1 then (cell, r) :: rest
    else a :: cellsWrite cell r rest

/-- The record a cell holds, none where nothing has written it since power-on. -/
def cellsRead (cell : Nat) : List (Nat × JournalRecord) → Option JournalRecord
  | [] => none
  | a :: rest => if a.1 = cell then some a.2 else cellsRead cell rest

/-- One append (R119): the record takes the next sequence number and the clock, and is written at its position. Once the numbering
is exhausted, appends are discarded. -/
def Journal.append (j : Journal) (clock : Nat) (r : JournalRecord) : Journal :=
  if j.next < Config.exhausted then
    { j with cells := cellsWrite (j.cellOf j.next) { r with seq := j.next, time := clock } j.cells, next := j.next + 1 }
  else j

/-- An append at this event (R119). -/
def State.appendRecord (s : State) (r : JournalRecord) : State := s.setJournal (s.journal.append s.run.clock r)

/-! ### The run state (R121) -/

/-- Move the run state and append the RUN STATE record after the change (R121, R134). -/
def State.changeRun (s : State) (new : RunState) (cause : RunCause) : State :=
  (s.setRun { s.run with state := new }).appendRecord { kind := .runState, flags := runFlags s.run.state new cause }

/-! ### Fault capture (R153 to R157) -/

def FaultCapture.rule (f : FaultCapture) (c : FaultCode) : CodeRule := f.codes[c.index]

def FaultCapture.setRule (f : FaultCapture) (c : FaultCode) (r : CodeRule) : FaultCapture :=
  { f with codes := f.codes.set c.index r }

def FaultCapture.classState (f : FaultCapture) : FaultClass → ClassState
  | .note => f.note
  | .fault => f.fault
  | .severe => f.severe

def FaultCapture.setClass (f : FaultCapture) (c : FaultClass) (x : ClassState) : FaultCapture :=
  match c with
  | .note => { f with note := x }
  | .fault => { f with fault := x }
  | .severe => { f with severe := x }

/-- The FAULT NOTIFY setting of a class (R155). -/
def Settings.notify (st : Settings) : FaultClass → Bool
  | .note => st.notifyNote
  | .fault => st.notifyFault
  | .severe => st.notifySevere

/-- The level of ALERT (R157). -/
def State.alert (s : State) : Bool := s.faults.fault.record.isSome || s.faults.severe.record.isSome

/-- Places of the outbound queue taken: frames queued and replies owed (R171). -/
def ServerLine.places (l : ServerLine) : Nat := l.queue.length + l.owed

/-- Put a frame at the tail of the outbound queue (R173). -/
def State.enqueue (s : State) (f : Frame) : State := s.setLine { s.line with queue := s.line.queue ++ [f] }

/-- Report a raise of a SEVERE code to Run Control, which drops SERVING to IDLE (R138, R156). -/
def State.severeReport (s : State) (cls : FaultClass) : State :=
  if cls = .severe ∧ s.run.state = .serving then s.changeRun .idle .severeFault else s

/-- Raise a fault code (R153 to R156). The first argument bounds the chain a refused FAULT notice starts (R155), which ends within
three raises. -/
def raiseWithin : Nat → FaultCode → FaultSource → Bytes → State → State
  | 0, _, _, _, s => s
  | n + 1, code, source, bytes, s =>
    let rule := s.faults.rule code
    let held := s.faults.classState rule.cls
    if rule.masked then s
    else
      match held.record with
      | some _ => (s.setFaults (s.faults.setClass rule.cls { held with further := true })).severeReport rule.cls
      | none =>
        let record : FaultRecord := { code := code, source := source, bytes := frameBytes bytes, time := s.run.clock }
        let captured := s.setFaults (s.faults.setClass rule.cls { record := some record, further := false })
        let told :=
          if s.store.settings.notify rule.cls then
            if captured.line.places < Config.noticeLimit then captured.enqueue (faultNotice rule.cls record)
            else raiseWithin n .noticeOverrun .serverLine (faultNotice rule.cls record).bytes captured
          else captured
        told.severeReport rule.cls

/-- Raise a fault code with its source and the frame it concerns (R153). -/
def State.raise (s : State) (code : FaultCode) (source : FaultSource) (bytes : Bytes) : State := raiseWithin 3 code source bytes s

/-- Offer a notice to the outbound queue: admitted below 56 places taken, else dropped with NOTICE OVERRUN (R171). -/
def State.offer (s : State) (f : Frame) : State :=
  if s.line.places < Config.noticeLimit then s.enqueue f else s.raise .noticeOverrun .serverLine f.bytes

/-! ### Replies (R169, R171) -/

/-- A command is taken: it holds a place for its reply (R171). -/
def State.owe (s : State) : State := s.setLine { s.line with owed := s.line.owed + 1 }

/-- Queue a reply into the place its command holds (R171). Where the event queued notices of its own (the queue was `before` frames
long when it began), the reply's place among them is free (log 5). -/
def State.queueReply (s : State) (before : Nat) (f : Frame) : State :=
  let line := { s.line with owed := s.line.owed - 1 }
  if s.line.queue.length ≤ before then s.setLine { line with queue := s.line.queue ++ [f] }
  else
    let place := before + Config.replyPlace s.freeCount % (s.line.queue.length - before + 1)
    (s.setLine { line with queue := s.line.queue.take place ++ f :: s.line.queue.drop place }).setFree (s.freeCount + 1)

/-- Take a command: it holds a place, its owning block decides it, and its one reply is queued (R169, R171). -/
def State.answer (s : State) (kind tag : U8) (decide : State → State × Reply) : State :=
  let r := decide s.owe
  r.1.queueReply s.line.queue.length (r.2.frame kind tag)

/-- A refusal that changes nothing (R10). -/
def State.refuse (s : State) (r : Reason) : State × Reply := (s, .refused r)

/-- An acceptance that changes nothing. -/
def State.accept (s : State) (data : Bytes) : State × Reply := (s, .accepted data)

/-! ### Conditions -/

/-- The part takes frames, edges and reports: it has power and is not held in reset (R151). -/
def State.live (s : State) : Bool := s.powered && s.hold == .none

def State.halted (s : State) : Bool := s.run.state == .halted

/-- Whether radio line n is enabled (R91). -/
def Settings.lineEnabled (st : Settings) (n : Nat) : Bool :=
  match n with
  | 0 => st.lineEnable0
  | 1 => st.lineEnable1
  | 2 => st.lineEnable2
  | _ => st.lineEnable3

/-- Whether a slot lies on an enabled line (section 5.1). -/
def State.slotEnabled (s : State) (slot : Slot) : Bool := s.store.settings.lineEnabled (slot.val / 16)

/-! ### Check records -/

def findCheck (checks : List Check) (n : Nat) : Option Check := checks.find? fun c => c.number == n

/-- Put a changed record back under its number. -/
def putCheck (checks : List Check) (c : Check) : List Check := checks.map fun x => if x.number = c.number then c else x

def State.check (s : State) (n : Nat) : Option Check := findCheck s.checks n

def State.putCheck (s : State) (c : Check) : State := s.setChecks (Machine.putCheck s.checks c)

/-! ### Slots and their items (R97) -/

def State.slot (s : State) (i : Slot) : SlotEntry := s.radio.slots[i]

def State.putSlot (s : State) (i : Slot) (e : SlotEntry) : State := s.setRadio { s.radio with slots := s.radio.slots.set i e }

/-- The item number after n: 255 is followed by 1 (R97). -/
def itemAfter (n : Nat) : Nat := if n = 255 then 1 else n + 1

/-- Place an OUTCOME: it replaces the pending outcome and clears the display. A MUTED slot discards it (R97). -/
def SlotEntry.placeOutcome (e : SlotEntry) (o : OutcomeItem) : SlotEntry :=
  if e.mode = .routed .muted then e
  else { e with outcome := some (e.nextItem, o), display := none, nextItem := itemAfter e.nextItem }

/-- The number a new display takes: the next, or the one after where the next is the pending outcome's (R97). -/
def SlotEntry.displayNumber (e : SlotEntry) : Nat :=
  if e.outcome.map Prod.fst = some e.nextItem then itemAfter e.nextItem else e.nextItem

/-- Place a display: it replaces the current display, and the pending outcome is kept (R97). -/
def SlotEntry.placeDisplay (e : SlotEntry) (d : Display) : SlotEntry :=
  if e.mode = .routed .muted then e
  else { e with display := some (e.displayNumber, d), nextItem := itemAfter e.displayNumber }

/-- The display of a mode (table of section 5.2). -/
def modeDisplay (checks : List Check) : RouteMode → Option Display
  | .idle => some (.text textNotAssigned 0 0)
  | .bound c => some (.text textCheck c (((findCheck checks c).map Check.table).getD 0))
  | .message t => some (.text t 0 0)
  | .muted => none

/-- Place the display of a mode, if it has one. -/
def SlotEntry.placeMode (e : SlotEntry) (checks : List Check) (m : RouteMode) : SlotEntry :=
  match modeDisplay checks m with
  | some d => e.placeDisplay d
  | none => e

def State.placeOutcome (s : State) (i : Slot) (o : OutcomeItem) : State := s.putSlot i ((s.slot i).placeOutcome o)

def State.placeDisplay (s : State) (i : Slot) (d : Display) : State := s.putSlot i ((s.slot i).placeDisplay d)

/-- Change every slot entry. -/
def Radio.mapSlots (r : Radio) (f : SlotEntry → SlotEntry) : Radio :=
  { r with slots := ⟨⟨r.slots.toArray.toList.map f⟩, by simp⟩ }

end Sys2Proof.Machine
end

