-- ==== Sys2Proof/Machine/FaultCommands.lean ====
section
/-! DEFINITION. The commands of Fault Capture (chapter 8). Raising and capture stand in Sys2Proof/Machine/Ops.lean. -/

namespace Sys2Proof.Machine

open Sys2Proof

/-- The three classes, in the order of FAULT READ (R160). -/
def FaultClass.all : List FaultClass := [.note, .fault, .severe]

/-- FAULT READ (R160, R180). DEDUCED: the level of ALERT is sent as 1 for high and 0 for low (log 53). -/
def faultRead (s : State) : State × Reply :=
  s.accept ((FaultClass.all.map fun c => (s.faults.classState c).bytes c ++ flag (s.store.settings.notify c)).flatten
    ++ (FaultCode.all.map fun c => flag (s.faults.rule c).masked ++ [(s.faults.rule c).cls.code]).flatten
    ++ flag s.alert ++ flag s.store.settings.injectEnable)

/-- FAULT CLEAR (R161). -/
def faultClear (cls : U8) (s : State) : State × Reply :=
  match FaultClass.ofCode cls with
  | none => s.refuse .range
  | some c =>
    (s.setFaults (s.faults.setClass c { record := none, further := false }), .accepted ((s.faults.classState c).bytes c))

/-- FAULT MASK (R158). -/
def faultMask (code mask cls : U8) (s : State) : State × Reply :=
  match FaultCode.ofNumber code, FaultClass.ofCode cls with
  | some c, some k =>
    if mask = 0 ∨ mask = 1 then
      (s.setFaults (s.faults.setRule c { masked := mask == 1, cls := k }), .accepted [code, mask, cls])
    else s.refuse .range
  | _, _ => s.refuse .range

/-- What FAULT INJECT answers: the outcome and the class the raise was taken in, 0 for a masked code (R162; log 10, log 32). -/
def injectData (s : State) (c : FaultCode) : Bytes :=
  let rule := s.faults.rule c
  if rule.masked then [Config.unlistedCode .injectMasked, 0]
  else if (s.faults.classState rule.cls).record.isSome then [Config.unlistedCode .injectFlagged, rule.cls.code]
  else [Config.unlistedCode .injectCaptured, rule.cls.code]

/-- FAULT INJECT; `bytes` are the frame's first bytes (R162, R163). -/
def faultInject (bytes : Bytes) (code : U8) (s : State) : State × Reply :=
  if !s.store.settings.injectEnable then s.refuse .state
  else
    match FaultCode.ofNumber code with
    | none => s.refuse .range
    | some c => (s.raise c .inject bytes, .accepted (injectData s c))

end Sys2Proof.Machine
end

