-- ==== Sys2Proof/Machine/JournalCommands.lean ====
section
/-! DEFINITION. The Journal's commands and events (chapter 6): the bank test, the re-forming of the span, snapshots, DUMP READ and
JOURNAL STATUS. Its storage and its append stand in Sys2Proof/Machine/Ops.lean. -/

namespace Sys2Proof.Machine

open Sys2Proof

/-! ### The bank test (R115, R117) -/

/-- The bank to be tested next: the lowest UNTESTED one; none when the test is DONE (R117). -/
def Journal.nextBank (j : Journal) : Option (Fin 8) := (List.finRange 8).find? fun b => j.results[b] == .untested

/-- The bank test state is RUNNING (R117). -/
def Journal.testing (j : Journal) : Bool := j.nextBank.isSome

/-- The raises of start-up are still ordered: the bank test runs, and no line reset has been taken since power-on (R164; log 66). -/
def State.startingUp (s : State) : Bool := s.journal.testing && s.run.lastReset.isNone

/-- A STORE WRITE FAIL that waits for the bank test is raised once the test is DONE (R164; log 66). -/
def State.startUpEnds (s : State) : State :=
  if s.faults.writeFailWaits && !s.journal.testing then
    (s.setFaults { s.faults with writeFailWaits := false }).raise .storeWriteFail .store []
  else s

/-- BANK_TEST: the test of the next bank, with its outcome (an operand, log 21); a bank found FAIL raises JOURNAL BANK FAIL (R117), and
the end of the test lets a waiting STORE WRITE FAIL through (R164). A line reset does not stop it (R133). -/
def execBankTest (pass : Bool) (s : State) : Host.Outcome State Fault Refusal :=
  .next
    (if !s.powered then s
     else
       match s.journal.nextBank with
       | none => s
       | some b =>
         let s1 := s.setJournal { s.journal with results := s.journal.results.set b (if pass then .pass else .fail) }
         (if pass then s1 else s1.raise .journalBankFail .journal []).startUpEnds)

/-! ### The span (R116) -/

/-- Re-form the span: the floor is the next sequence number and no snapshot is active (R116). -/
def Journal.reform (j : Journal) (base extent : Nat) : Journal :=
  { j with base := base, extent := extent, floor := j.next, snapshot := none }

/-! ### Snapshots (R124 to R127) -/

/-- A depth clamped into 1..size (R124). -/
def Journal.depth (j : Journal) (depth : Nat) : Nat := max 1 (min depth j.size)

/-- The journal retains a record (R115). -/
def Journal.holdsRecord (j : Journal) : Bool := decide (j.oldest < j.next)

/-- The snapshot over a start and an end (R126). -/
def snapshotOf (start : Nat) (stop : Option Nat) (cause : SnapCause) : Snapshot :=
  { start := start, stop := stop, pointer := start, lapped := 0, cause := cause }

/-- A RELATIVE snapshot of a depth (R124). -/
def Journal.relative (j : Journal) (depth : Nat) (cause : SnapCause) : Snapshot :=
  snapshotOf (max j.oldest (j.next - j.depth depth)) (if j.holdsRecord then some (j.next - 1) else none) cause

/-- An ABSOLUTE snapshot from a start, of a depth (R125). -/
def Journal.absolute (j : Journal) (start depth : Nat) (cause : SnapCause) : Snapshot :=
  let first := max j.oldest start
  snapshotOf first
    (if j.holdsRecord ∧ first < j.next then some (min (first + j.depth depth - 1) (j.next - 1)) else none) cause

/-- Put a snapshot in force (R126), and set the intake hold under SNAP FREEZE in IDLE and SERVING (R127). -/
def State.cutSnapshot (s : State) (x : Snapshot) : State :=
  let s1 := s.setJournal { s.journal with snapshot := some x }
  if s.store.settings.snapFreeze ∧ s.run.state ≠ .halted then s1.setRun { s1.run with hold := true } else s1

/-- The mark that R127 set the intake hold; free where the hold was already on (R126, R127; log 23). -/
def State.freezeMark (s : State) : Bool :=
  if s.store.settings.snapFreeze ∧ s.run.state ≠ .halted then (if s.run.hold then Config.freezeMarkWhenHeld else true) else false

/-- The data of a SNAP cut at once (R126). DEDUCED: a next sequence number, a start or an oldest retained of 2^32, which only
exhausted numbering gives, is sent as 0, as R175 gives for a number that carries an exhausted mark (log 50). -/
def snapData (j : Journal) (x : Snapshot) (mark : Bool) : Bytes :=
  le 4 x.start ++ snapEnd x.stop ++ le 4 x.records ++ le 4 j.oldest ++ le 4 j.next ++ flag mark

/-- The data of a SNAP with sync option on: no range (R128; log 33). -/
def snapSyncData : Bytes := List.replicate 22 0

/-- The sync option a byte names; another value than 0 and 1 is free (log 24). -/
def syncOption (sync : U8) : Bool := if sync = 0 then false else if sync = 1 then true else Config.unlistedSync sync

/-- SNAP (R124 to R128). DEDUCED: a depth above 65,535 is clamped like any other above the span's size (log 51). -/
def snap (kind : U8) (depth start : U32) (sync : U8) (s : State) : State × Reply :=
  if kind ≠ 1 ∧ kind ≠ 2 then s.refuse .range
  else if syncOption sync then
    if !s.store.settings.snapSync then s.refuse .range
    else if s.journal.drive ≠ .idle then s.refuse .busy
    else (s.setJournal { s.journal with drive := .due }, .accepted snapSyncData)
  else
    let d := if depth = 0 then s.store.settings.snapDepth else depth.toNat
    let x := if kind = 1 then s.journal.relative d .command else s.journal.absolute start.toNat d .command
    (s.cutSnapshot x, .accepted (snapData s.journal x s.freezeMark))

/-- SNAP_LINE_FALLING_EDGE (R129). -/
def execSnapLineFallingEdge (s : State) : Host.Outcome State Fault Refusal :=
  .next
    (if s.live && s.store.settings.snapSync then
       let x := s.journal.relative s.store.settings.snapDepth .snapLine
       (s.cutSnapshot x).offer (snapshotTakenNotice x s.journal.next s.run.clock s.freezeMark)
     else s)

/-! ### DUMP READ (R130, R131) -/

/-- A marker of a DUMP READ. -/
def marker (kind : RecordKind) (seq clock : Nat) : JournalRecord := { seq := seq, time := clock, kind := kind }

/-- The 32 bytes read for item i of a reply, the stored record n; what a failed bank reads as is free (R118; log 8). -/
def storedBytes (s : State) (i n : Nat) : Bytes :=
  let cell := s.journal.cellOf n
  match cellsRead cell s.journal.cells with
  | some r =>
    if s.journal.bankResult (bankOfCell cell) = .fail then (List.range 32).map fun b => Config.unvouchedByte s.freeCount (32 * i + b)
    else r.bytes
  | none => (List.range 32).map fun b => Config.unvouchedByte s.freeCount (32 * i + b)

/-- Item i of a DUMP READ: number n's record, or its LAPPED marker (R130). -/
def dumpItem (s : State) (i n : Nat) : Bytes :=
  if s.journal.oldest ≤ n then storedBytes s i n else (marker .lapped n s.run.clock).bytes

/-- The DUMP END marker (R131). -/
def dumpEnd (s : State) (x : Snapshot) (lapped : Nat) : Bytes :=
  ({ marker .dumpEnd s.journal.next s.run.clock with amount := x.start, tip := lapped } : JournalRecord).bytes

/-- The numbers a DUMP READ gives: up to 8, from the pointer to the end (R130). -/
def dumpNumbers (x : Snapshot) : List Nat :=
  match x.stop with
  | none => []
  | some e => (List.range (min 8 (e + 1 - x.pointer))).map (x.pointer + ·)

/-- The reply of a DUMP READ: a count and the items (R130). -/
def dumpReply (items : List Bytes) : Reply := .accepted (le 1 items.length ++ items.flatten)

/-- DUMP READ (R130, R131). -/
def dumpRead (s : State) : State × Reply :=
  match s.journal.snapshot with
  | none => s.accept (le 1 1 ++ (marker .empty s.journal.next s.run.clock).bytes)
  | some x =>
    let numbers := dumpNumbers x
    let lapped := x.lapped + (numbers.filter fun n => decide (n < s.journal.oldest)).length
    let items := (List.range numbers.length).map fun i => dumpItem s i (x.pointer + i)
    let s1 := s.setFree (s.freeCount + 1)
    if numbers.length = 8 then
      (s1.setJournal { s.journal with snapshot := some { x with pointer := x.pointer + 8, lapped := lapped } }, dumpReply items)
    else (s1.setJournal { s.journal with snapshot := none }, dumpReply (items ++ [dumpEnd s x lapped]))

/-! ### JOURNAL STATUS (R132) -/

def BankResult.code : BankResult → U8
  | .untested => Config.unlistedCode .bankUntested
  | .pass => Config.unlistedCode .bankPass
  | .fail => Config.unlistedCode .bankFail

def SyncDrive.code : SyncDrive → U8
  | .idle => Config.unlistedCode .driveIdle
  | .due => Config.unlistedCode .driveDue
  | .driving => Config.unlistedCode .driveDriving

/-- The bank test state's code (log 10). -/
def Journal.testCode (j : Journal) : U8 :=
  if j.testing then Config.unlistedCode .bankTestRunning else Config.unlistedCode .bankTestDone

/-- The snapshot of JOURNAL STATUS: active or not, cause, start, end, pointer; zeros when inactive (R132, R177). -/
def snapshotFields : Option Snapshot → Bytes
  | none => List.replicate 15 0
  | some x => [1, x.cause.code] ++ le 4 x.start ++ snapEnd x.stop ++ le 4 x.pointer

/-- The level of the SNAP line as the part reads it: low while it drives it, else free (R128, R132; log 9). -/
def State.snapLevel (s : State) : Bool := s.journal.drive != .driving && !Config.snapHeldLow s.freeCount

/-- JOURNAL STATUS (R132). DEDUCED: the level of the SNAP line is sent as 1 for high and 0 for low (log 53); the eight bank results are
fields, not a list with a count (log 59); an oldest retained, a start or a pointer of 2^32 is sent as 0 (log 50). -/
def journalStatus (s : State) : State × Reply :=
  let j := s.journal
  (s.setFree (s.freeCount + 1),
   .accepted (j.testCode :: (j.results.toList.map BankResult.code ++ le 4 j.base ++ le 4 j.extent ++ le 4 j.size
     ++ le 4 j.next ++ flag (decide (Config.exhausted ≤ j.next)) ++ le 4 j.oldest ++ snapshotFields j.snapshot
     ++ [j.drive.code] ++ flag s.snapLevel)))

end Sys2Proof.Machine
end

