-- ==== Sys2Proof/Machine/Operands.lean ====
section
/-! DEFINITION. How commands and terminal messages stand on their lines: the bodies of the host commands (R174, R176, R177) with
their decoder and encoder, the split plan of R12, and the uplink frames of the radio lines with the tests of R92 (R178). -/

namespace Sys2Proof.Machine

open Sys2Proof

/-! ### Host commands -/

/-- A host command without its tag: the fields of its body, in order (R176). -/
inductive HostCommand
  | openCheck (check table : U16) (covers mode : U8) (plan : Option PlanBytes)
  | addItem (check : U16) (price : U32) (quantity taxClass : U8) (seats : U32)
  | voidItem (check : U16) (line : U8)
  | setSplit (check : U16) (plan : PlanBytes)
  | setCovers (check : U16) (covers : U8)
  | checkQuery (check : U16) (part : QueryPart) (firstLine : U8)
  | closeCheck (check : U16)
  | voidCheck (check : U16)
  | authResult (tender : U16) (outcome : U8) (approved : U32) (code : Bytes) (reason : U8)
  | tenderQuery (tender : U16)
  | uplinkState (state : U8)
  | forwardResult (number : U32) (outcome reason : U8)
  | forwardRestart
  | forwardQuery (position : U32)
  | routeSlot (slot mode : U8) (check : U16) (text : Bytes)
  | routeFill (mode : U8) (check : U16) (text : Bytes)
  | probeSlot (slot : U8) (frames : U32)
  | slotQuery (first : U8)
  | snap (kind : U8) (depth start : U32) (sync : U8)
  | dumpRead
  | journalStatus
  | setRun (state : U8)
  | intakeHold (value : U8)
  | timeSet (clock : U32)
  | runQuery
  | settingRead (setting : U8)
  | settingWrite (setting : U8) (value : U32)
  | reset
  | faultRead
  | faultClear (cls : U8)
  | faultMask (code mask cls : U8)
  | faultInject (code : U8)
  | shiftQuery (first : U8)
  | shiftClose
  deriving DecidableEq, Repr

/-- The kind of a command (R174). -/
def HostCommand.kind : HostCommand → U8
  | .openCheck .. => 0x01 | .addItem .. => 0x02 | .voidItem .. => 0x03 | .setSplit .. => 0x04 | .setCovers .. => 0x05
  | .checkQuery .. => 0x06 | .closeCheck .. => 0x07 | .voidCheck .. => 0x08
  | .authResult .. => 0x10 | .tenderQuery .. => 0x11
  | .uplinkState .. => 0x14 | .forwardResult .. => 0x15 | .forwardRestart => 0x16 | .forwardQuery .. => 0x17
  | .routeSlot .. => 0x18 | .routeFill .. => 0x19 | .probeSlot .. => 0x1A | .slotQuery .. => 0x1B
  | .snap .. => 0x20 | .dumpRead => 0x21 | .journalStatus => 0x22
  | .setRun .. => 0x24 | .intakeHold .. => 0x25 | .timeSet .. => 0x26 | .runQuery => 0x27
  | .settingRead .. => 0x28 | .settingWrite .. => 0x29 | .reset => 0x2A
  | .faultRead => 0x2C | .faultClear .. => 0x2D | .faultMask .. => 0x2E | .faultInject .. => 0x2F
  | .shiftQuery .. => 0x30 | .shiftClose => 0x31

/-- The kinds of section 9.5 (R168 test 1, R174). -/
def knownKind (k : U8) : Bool :=
  let n := k.toNat
  (1 ≤ n && n ≤ 8) || n == 0x10 || n == 0x11 || (0x14 ≤ n && n ≤ 0x1B) || (0x20 ≤ n && n ≤ 0x22) || (0x24 ≤ n && n ≤ 0x2A)
    || (0x2C ≤ n && n ≤ 0x31)

/-- A plan as it stands in a body (R176). -/
def planBody (p : PlanBytes) : Bytes := [p.form, p.k] ++ (p.items.map fun v => le 4 v.toNat).flatten

/-- The byte of a CHECK QUERY part (R13, log 10). -/
def partByte : QueryPart → U8
  | .summary => Config.summaryCode
  | .lines => Config.linesCode
  | .other b => b

/-- The part a byte names (R13, log 10). -/
def partOfByte (b : U8) : QueryPart :=
  if b = Config.summaryCode then .summary else if b = Config.linesCode then .lines else .other b

/-- The body of a command (R176). DEDUCED, where R175 names no width: the number of a setting and a fault code take 1 byte, and the first
position of FORWARD QUERY, the depth of SNAP and the frames of PROBE SLOT take 4 (log 11). -/
def HostCommand.body : HostCommand → Bytes
  | .openCheck check table covers mode plan =>
    le 2 check.toNat ++ le 2 table.toNat ++ [covers, mode] ++ (match plan with | none => [] | some p => planBody p)
  | .addItem check price quantity taxClass seats =>
    le 2 check.toNat ++ le 4 price.toNat ++ [quantity, taxClass] ++ le 4 seats.toNat
  | .voidItem check line => le 2 check.toNat ++ [line]
  | .setSplit check plan => le 2 check.toNat ++ planBody plan
  | .setCovers check covers => le 2 check.toNat ++ [covers]
  | .checkQuery check part firstLine => le 2 check.toNat ++ [partByte part, firstLine]
  | .closeCheck check => le 2 check.toNat
  | .voidCheck check => le 2 check.toNat
  | .authResult tender outcome approved code reason =>
    le 2 tender.toNat ++ [outcome] ++ le 4 approved.toNat ++ code ++ [reason]
  | .tenderQuery tender => le 2 tender.toNat
  | .uplinkState state => [state]
  | .forwardResult number outcome reason => le 4 number.toNat ++ [outcome, reason]
  | .forwardRestart => []
  | .forwardQuery position => le 4 position.toNat
  | .routeSlot slot mode check text => [slot, mode] ++ le 2 check.toNat ++ text
  | .routeFill mode check text => [mode] ++ le 2 check.toNat ++ text
  | .probeSlot slot frames => [slot] ++ le 4 frames.toNat
  | .slotQuery first => [first]
  | .snap kind depth start sync => [kind] ++ le 4 depth.toNat ++ le 4 start.toNat ++ [sync]
  | .dumpRead => []
  | .journalStatus => []
  | .setRun state => [state]
  | .intakeHold value => [value]
  | .timeSet clock => le 4 clock.toNat
  | .runQuery => []
  | .settingRead setting => [setting]
  | .settingWrite setting value => [setting] ++ le 4 value.toNat
  | .reset => []
  | .faultRead => []
  | .faultClear cls => [cls]
  | .faultMask code mask cls => [code, mask, cls]
  | .faultInject code => [code]
  | .shiftQuery first => [first]
  | .shiftClose => []

/-- The body has the length its kind requires (R168 test 3, R176). -/
def HostCommand.wf : HostCommand → Bool
  | .openCheck _ _ _ _ plan => plan.all PlanBytes.wf
  | .setSplit _ plan => plan.wf
  | .checkQuery _ part _ => part.wf
  | .authResult _ _ _ code _ => code.length == 6
  | .routeSlot _ _ _ text => text.length == 32
  | .routeFill _ _ text => text.length == 32
  | .addItem .. | .voidItem .. | .setCovers .. | .closeCheck .. | .voidCheck .. | .tenderQuery .. | .uplinkState ..
  | .forwardResult .. | .forwardRestart | .forwardQuery .. | .probeSlot .. | .slotQuery .. | .snap .. | .dumpRead
  | .journalStatus | .setRun .. | .intakeHold .. | .timeSet .. | .runQuery | .settingRead .. | .settingWrite .. | .reset
  | .faultRead | .faultClear .. | .faultMask .. | .faultInject .. | .shiftQuery .. | .shiftClose => true

/-- The whole frame of a command (R165). -/
def HostCommand.frame (c : HostCommand) (tag : U8) : Bytes := frameOf c.kind tag c.body

/-- The plan a string of bytes spells, if it has the length its form and k require (R176). -/
def readPlan (b : Bytes) : Option PlanBytes :=
  let n := planItems (byteAt b 0) (byteAt b 1)
  if b.length = 2 + 4 * n then
    some { form := byteAt b 0, k := byteAt b 1, items := (List.range n).map fun i => field32 b (2 + 4 * i) }
  else none

/-- Answer `c` where the body has the required length (R168 test 3). -/
def exactly (body : Bytes) (n : Nat) (c : HostCommand) : Option HostCommand := if body.length = n then some c else none

/-- The command a known kind and a body spell; none where the body has not the length the kind requires (R176). -/
def readCommand (kind : U8) (b : Bytes) : Option HostCommand :=
  match kind.toNat with
  | 0x01 =>
    if b.length = 6 then some (.openCheck (field16 b 0) (field16 b 2) (byteAt b 4) (byteAt b 5) none)
    else if 8 ≤ b.length then
      (readPlan (b.drop 6)).map fun p => .openCheck (field16 b 0) (field16 b 2) (byteAt b 4) (byteAt b 5) (some p)
    else none
  | 0x02 => exactly b 12 (.addItem (field16 b 0) (field32 b 2) (byteAt b 6) (byteAt b 7) (field32 b 8))
  | 0x03 => exactly b 3 (.voidItem (field16 b 0) (byteAt b 2))
  | 0x04 => if 4 ≤ b.length then (readPlan (b.drop 2)).map fun p => .setSplit (field16 b 0) p else none
  | 0x05 => exactly b 3 (.setCovers (field16 b 0) (byteAt b 2))
  | 0x06 => exactly b 4 (.checkQuery (field16 b 0) (partOfByte (byteAt b 2)) (byteAt b 3))
  | 0x07 => exactly b 2 (.closeCheck (field16 b 0))
  | 0x08 => exactly b 2 (.voidCheck (field16 b 0))
  | 0x10 => exactly b 14 (.authResult (field16 b 0) (byteAt b 2) (field32 b 3) (fieldBytes b 7 6) (byteAt b 13))
  | 0x11 => exactly b 2 (.tenderQuery (field16 b 0))
  | 0x14 => exactly b 1 (.uplinkState (byteAt b 0))
  | 0x15 => exactly b 6 (.forwardResult (field32 b 0) (byteAt b 4) (byteAt b 5))
  | 0x16 => exactly b 0 .forwardRestart
  | 0x17 => exactly b 4 (.forwardQuery (field32 b 0))
  | 0x18 => exactly b 36 (.routeSlot (byteAt b 0) (byteAt b 1) (field16 b 2) (fieldBytes b 4 32))
  | 0x19 => exactly b 35 (.routeFill (byteAt b 0) (field16 b 1) (fieldBytes b 3 32))
  | 0x1A => exactly b 5 (.probeSlot (byteAt b 0) (field32 b 1))
  | 0x1B => exactly b 1 (.slotQuery (byteAt b 0))
  | 0x20 => exactly b 10 (.snap (byteAt b 0) (field32 b 1) (field32 b 5) (byteAt b 9))
  | 0x21 => exactly b 0 .dumpRead
  | 0x22 => exactly b 0 .journalStatus
  | 0x24 => exactly b 1 (.setRun (byteAt b 0))
  | 0x25 => exactly b 1 (.intakeHold (byteAt b 0))
  | 0x26 => exactly b 4 (.timeSet (field32 b 0))
  | 0x27 => exactly b 0 .runQuery
  | 0x28 => exactly b 1 (.settingRead (byteAt b 0))
  | 0x29 => exactly b 5 (.settingWrite (byteAt b 0) (field32 b 1))
  | 0x2A => exactly b 0 .reset
  | 0x2C => exactly b 0 .faultRead
  | 0x2D => exactly b 1 (.faultClear (byteAt b 0))
  | 0x2E => exactly b 3 (.faultMask (byteAt b 0) (byteAt b 1) (byteAt b 2))
  | 0x2F => exactly b 1 (.faultInject (byteAt b 0))
  | 0x30 => exactly b 1 (.shiftQuery (byteAt b 0))
  | 0x31 => exactly b 0 .shiftClose
  | _ => none

/-- An AUTH RESULT with a character outside R175's in its approval code (R168 test 4). -/
def HostCommand.badCode : HostCommand → Bool
  | .authResult _ _ _ code _ => !code.all codeChar
  | _ => false

/-! ### Split plans and seats (R12) -/

/-- The seats a set names, in increasing seat number (R175). -/
def seatList (v : U32) : List Nat := ((List.range 32).filter fun i => v.getLsbD i).map (· + 1)

/-- Every seat of the set is at most n. -/
def seatsWithin (v : U32) (n : Nat) : Bool := (seatList v).all fun s => s ≤ n

/-- A plan as its form gives it, where the ranges of R12 that need no check hold: k in 1..24, seat groups not empty and of seats
1..24, fixed amounts 0..99,999,999 (R10 test 2, log 12). -/
def planOfBytes (p : PlanBytes) : Option SplitPlan :=
  let k := p.k.toNat
  if p.form = 0 then some .whole
  else if k < 1 ∨ 24 < k then none
  else if p.form = 1 then some (.even k)
  else if p.form = 2 then
    if p.items.all fun g => g != 0 && seatsWithin g 24 then some (.bySeat p.items) else none
  else if p.form = 3 then
    if p.items.all fun v => v.toNat ≤ Config.maxTotal then some (.byAmount k (p.items.map BitVec.toNat)) else none
  else none

/-- The rest of R12's test, against the covers and the total due of the check. -/
def SplitPlan.fits (plan : SplitPlan) (covers d : Nat) : Bool :=
  match plan with
  | .whole => true
  | .even k => decide (1 ≤ k ∧ k ≤ 24)
  | .bySeat groups =>
    decide (1 ≤ groups.length ∧ groups.length ≤ covers) && groups.all (fun g => g != 0 && seatsWithin g covers)
      && (List.range covers).all fun i => (groups.filter fun g => g.getLsbD i).length == 1
  | .byAmount k fixed => decide (1 ≤ k ∧ k ≤ 24 ∧ fixed.sum ≤ d) && fixed.all fun v => v ≤ Config.maxTotal

/-- A plan as CHECK QUERY returns it, in the coding of R176. -/
def SplitPlan.bytes : SplitPlan → Bytes
  | .whole => [0, 0]
  | .even k => 1 :: le 1 k
  | .bySeat groups => 2 :: (le 1 groups.length ++ (groups.map fun g => le 4 g.toNat).flatten)
  | .byAmount k fixed => 3 :: (le 1 k ++ (fixed.map (le 4)).flatten)

/-! ### Route modes (R105, R107) -/

/-- The mode a route command gives; none where R105 test 2 (R107 test 2) refuses it: a mode outside the four, BOUND with check 0, a
MESSAGE text that is empty. -/
def routeOfFields (mode : U8) (check : U16) (text : Bytes) : Option RouteMode :=
  if mode = 0 then some .idle
  else if mode = 1 then (if check = 0 then none else some (.bound check.toNat))
  else if mode = 2 then (if text.all (· == 0x20) || text.length > 32 then none else some (.message text))
  else if mode = 3 then some .muted
  else none

/-! ### Terminal messages (R92, R178) -/

/-- A message of a terminal. -/
inductive UplinkMessage
  | wake (terminalId : Bytes)
  | pick
  | present (share : U8) (part : U32) (tipKind : U8) (tipValue : U32) (token : Bytes) (method tag : U8)
  | cancel (tag : U8)
  | ack (item : U8)
  | echo (pattern : Bytes)
  deriving DecidableEq, Repr

def UplinkMessage.kind : UplinkMessage → U8
  | .wake _ => 0x01 | .pick => 0x02 | .present .. => 0x03 | .cancel _ => 0x04 | .ack _ => 0x05 | .echo _ => 0x06

def UplinkMessage.body : UplinkMessage → Bytes
  | .wake terminalId => terminalId
  | .pick => []
  | .present share part tipKind tipValue token method tag =>
    [share] ++ le 4 part.toNat ++ [tipKind] ++ le 4 tipValue.toNat ++ token ++ [method, tag]
  | .cancel tag => [tag]
  | .ack item => [item]
  | .echo pattern => pattern

/-- The frame of a message (R178). -/
def UplinkMessage.frame (m : UplinkMessage) : Bytes := radioFrame m.kind m.body

/-- The lengths and the field ranges R92 tests: a PRESENT's share, part, tip kind, tip value and entry method, an ECHO's 32 pattern
bytes (section 3.2, R92). DEDUCED: any 8 bytes are a terminal id, ASCII or not (log 56), and 0 is a good item number (log 43). -/
def UplinkMessage.good : UplinkMessage → Bool
  | .wake terminalId => terminalId.length == 8
  | .pick => true
  | .present share part tipKind tipValue token method _ =>
    decide (1 ≤ share.toNat ∧ share.toNat ≤ 25 ∧ part.toNat ≤ Config.maxTotal ∧ tipKind.toNat ≤ 2) &&
      decide (tipKind = 1 → tipValue.toNat ≤ Config.maxTotal) && decide (tipKind = 2 → tipValue.toNat ≤ 100) &&
      decide (1 ≤ method.toNat ∧ method.toNat ≤ 4) && token.length == 16
  | .cancel _ => true
  | .ack _ => true
  | .echo pattern => pattern.length == 32

/-- The message a radio frame spells, by its kind and length, its CRC apart (R178). -/
def readUplink (f : Bytes) : Option UplinkMessage :=
  let kind := byteAt f 0
  if kind = 0x01 ∧ f.length = 11 then some (.wake (fieldBytes f 1 8))
  else if kind = 0x02 ∧ f.length = 3 then some .pick
  else if kind = 0x03 ∧ f.length = 31 then
    some (.present (byteAt f 1) (field32 f 2) (byteAt f 6) (field32 f 7) (fieldBytes f 11 16) (byteAt f 27) (byteAt f 28))
  else if kind = 0x04 ∧ f.length = 4 then some (.cancel (byteAt f 1))
  else if kind = 0x05 ∧ f.length = 4 then some (.ack (byteAt f 1))
  else if kind = 0x06 ∧ f.length = 35 then some (.echo (fieldBytes f 1 32))
  else none

/-- The CRC of a radio frame matches (R92, R178). -/
def uplinkCrcGood (f : Bytes) : Bool := field16 f (f.length - 2) == crc16 (f.take (f.length - 2))

/-- The message of a frame that passes every test of R92; none for a bad frame. -/
def goodUplink (f : Bytes) : Option UplinkMessage :=
  if f.length < 3 ∨ uplinkCrcGood f = false then none
  else
    match readUplink f with
    | some m => if m.good then some m else none
    | none => none

end Sys2Proof.Machine
end

