-- ==== Sys2Proof/Machine/Split.lean ====
section
/-! DEFINITION. The Split Engine (chapter 2): totals, largest-remainder allocation, the four split methods, tips at intake. Pure
functions: the engine keeps nothing from one run to the next (R25). -/

namespace Sys2Proof.Machine

open Sys2Proof

/-! ### Totals (R26 to R29) -/

/-- The amount of a line (R26). -/
def LineEntry.amount (l : LineEntry) : Nat := l.price * l.quantity

/-- The class subtotal: the amounts of the lines of class t that are not voided (R26). -/
def classSubtotal (lines : List LineEntry) (t : Nat) : Nat :=
  ((lines.filter fun l => !l.voided && l.taxClass == t).map LineEntry.amount).sum

/-- Round half up of x × bp / 10,000 (R27, R28, section 5.2 of the scope file). -/
def basisPoints (x bp : Nat) : Nat := (x * bp + 5000) / 10000

/-- Whether service applies (R28). -/
def serviceApplies (mode : ServiceMode) (party covers : Nat) : Bool :=
  match mode with
  | .on => true
  | .off => false
  | .auto => decide (party ≠ 0 ∧ party ≤ covers)

/-- The totals of a line list (R26 to R29). -/
def computeTotals (st : Settings) (mode : ServiceMode) (covers : Nat) (lines : List LineEntry) : Totals :=
  let s0 := classSubtotal lines 0
  let s1 := classSubtotal lines 1
  let s2 := classSubtotal lines 2
  let s3 := classSubtotal lines 3
  let t0 := basisPoints s0 st.taxRate0
  let t1 := basisPoints s1 st.taxRate1
  let t2 := basisPoints s2 st.taxRate2
  let t3 := basisPoints s3 st.taxRate3
  let s := s0 + s1 + s2 + s3
  let sc := if serviceApplies mode st.serviceParty covers then basisPoints s st.serviceRate else 0
  { s0 := s0, s1 := s1, s2 := s2, s3 := s3, t0 := t0, t1 := t1, t2 := t2, t3 := t3, sc := sc, s := s,
    d := s + t0 + t1 + t2 + t3 + sc }

/-! ### Largest-remainder allocation (R30, R31) -/

/-- The parts served before part i in the leftover pass: a greater remainder, or an equal one at a lower number (R30). -/
def servedBefore (rem : Nat → Nat) (k i : Nat) : Nat :=
  ((List.range k).filter fun j => rem i < rem j || (rem j == rem i && j < i)).length

/-- Largest-remainder allocation of x over weights (R30). -/
def allocate (x : Nat) (weights : List Nat) : List Nat :=
  let total := weights.sum
  if total = 0 then weights.map fun _ => 0
  else
    let rem (i : Nat) : Nat := x * weights.getD i 0 % total
    let leftover := x - (weights.map fun w => x * w / total).sum
    (List.range weights.length).map fun i =>
      x * weights.getD i 0 / total + if servedBefore rem weights.length i < leftover then 1 else 0

/-- Part i, from 0, of the even division of x over k parts (R31). -/
def evenPart (x k i : Nat) : Nat := x / k + if i < x % k then 1 else 0

/-- The even division of x over k parts (R31). -/
def evenDivision (x k : Nat) : List Nat := (List.range k).map (evenPart x k)

/-! ### Seats (R34) -/

/-- The seats a line is shared by: its seat set, or seats 1..covers where it has none (R3, R34). -/
def LineEntry.seatsOf (l : LineEntry) (covers : Nat) : List Nat :=
  if l.seats = 0 then (List.range covers).map (· + 1) else seatList l.seats

/-- A seat's part of a line: the even division over the line's seats in increasing seat number (R34). -/
def seatPart (l : LineEntry) (covers seat : Nat) : Nat :=
  let seats := l.seatsOf covers
  match seats.findIdx? fun s => s == seat with
  | some i => evenPart l.amount seats.length i
  | none => 0

/-- The seat amount of a seat in class t (R34). -/
def seatAmount (lines : List LineEntry) (covers t seat : Nat) : Nat :=
  ((lines.filter fun l => !l.voided && l.taxClass == t).map fun l => seatPart l covers seat).sum

/-- The class-t subtotal of a share: the seat amounts of its group (R35). -/
def groupSubtotal (lines : List LineEntry) (covers t : Nat) (group : U32) : Nat :=
  ((seatList group).map fun seat => seatAmount lines covers t seat).sum

/-! ### The split methods (R32 to R39) -/

/-- A rebuilt share: nothing paid or held, open equal to its due (R4). -/
def newShare (number : Nat) (group : U32) (fixed due tipBase : Nat) : Share :=
  { number := number, group := group, fixed := fixed, due := due, openAmt := due, tipBase := tipBase }

/-- The tip base by the setting: the PRE TAX figure, or the due under POST TAX (R39). -/
def tipBaseOf (st : Settings) (preTax due : Nat) : Nat :=
  match st.tipBase with
  | .preTax => preTax
  | .postTax => due

/-- The due and the subtotal of each share under BY SEAT (R35, R36). -/
def seatShares (groups : List U32) (lines : List LineEntry) (covers : Nat) (t : Totals) : List (Nat × Nat) :=
  let w (c : Nat) : List Nat := groups.map (groupSubtotal lines covers c)
  let subs := (List.range groups.length).map fun i => (w 0).getD i 0 + (w 1).getD i 0 + (w 2).getD i 0 + (w 3).getD i 0
  let a0 := allocate t.t0 (w 0)
  let a1 := allocate t.t1 (w 1)
  let a2 := allocate t.t2 (w 2)
  let a3 := allocate t.t3 (w 3)
  let service := allocate t.sc subs
  (List.range groups.length).map fun i =>
    (subs.getD i 0 + a0.getD i 0 + a1.getD i 0 + a2.getD i 0 + a3.getD i 0 + service.getD i 0, subs.getD i 0)

/-- Under BY AMOUNT, the due of share i, from 0: its fixed amount, or what the fixed amounts leave for the last (R37). -/
def amountDue (k : Nat) (fixed : List Nat) (d i : Nat) : Nat := if i + 1 < k then fixed.getD i 0 else d - fixed.sum

/-- The shares a plan builds (R4, R32 to R39). -/
def buildShares (st : Settings) (plan : SplitPlan) (lines : List LineEntry) (covers : Nat) (t : Totals) : List Share :=
  match plan with
  | .whole => [newShare 1 0 0 t.d (tipBaseOf st t.s t.d)]
  | .even k =>
    (List.range k).map fun i => newShare (i + 1) 0 0 (evenPart t.d k i) (tipBaseOf st (evenPart t.s k i) (evenPart t.d k i))
  | .bySeat groups =>
    let figures := seatShares groups lines covers t
    (List.range groups.length).map fun i =>
      let f := figures.getD i (0, 0)
      newShare (i + 1) (groups.getD i 0) 0 f.1 (tipBaseOf st f.2 f.1)
  | .byAmount k fixed =>
    (List.range k).map fun i =>
      let due := amountDue k fixed t.d i
      newShare (i + 1) 0 (if i + 1 < k then fixed.getD i 0 else 0) due
        (tipBaseOf st (if t.d = 0 then 0 else due * t.s / t.d) due)

/-- The fixed amounts of a plan (R12). -/
def SplitPlan.fixedSum : SplitPlan → Nat
  | .byAmount _ fixed => fixed.sum
  | .whole | .even _ | .bySeat _ => 0

/-- Steps 2 and 3 of a run: the total limit, then the sum of fixed amounts (R25, R29, R37). -/
def engineRefusal (plan : SplitPlan) (t : Totals) : Option Reason :=
  if Config.maxTotal < t.d then some .totalLimit
  else if t.d < plan.fixedSum then some .range
  else none

/-! ### Tips at intake (R41, R42) -/

/-- The prorated base of a tender (R41). -/
def proratedBase (tipBase part due : Nat) : Nat := tipBase * part / due

/-- The tip before the cap, by the tip kind: NONE 0, AMOUNT 1, PERCENT 2 (R41). -/
def tipBeforeCap (base tipKind tipValue : Nat) : Nat :=
  if tipKind = 1 then tipValue else if tipKind = 2 then (base * tipValue + 50) / 100 else 0

/-- The tip cap (R42). -/
def tipCapOf (base cap : Nat) : Nat := base * cap / 100

/-- The tip after the cap and the TIP CLAMPED flag (R42). -/
def settleTip (tipCap tipBase part due tipKind tipValue : Nat) : Nat × Bool :=
  let base := proratedBase tipBase part due
  let tip := tipBeforeCap base tipKind tipValue
  let cap := tipCapOf base tipCap
  if cap < tip then (cap, true) else (tip, false)

end Sys2Proof.Machine
end

