-- ==== Sys2Proof/Machine/Checks.lean ====
section
/-! DEFINITION. The Check Table (chapter 1): settling, holds, releases and posts, the check barrier, and the eight check commands. -/

namespace Sys2Proof.Machine

open Sys2Proof

/-! ### Records -/

/-- A share is PAID when its paid figure equals its due (R5). -/
def Share.isPaid (x : Share) : Bool := x.paid == x.due

/-- Free entries of the line pool (R2). -/
def linesFree (checks : List Check) : Nat := Config.linePoolSize - (checks.map fun c => c.lines.length).sum

def Check.share (c : Check) (n : Nat) : Option Share := c.shares.find? fun x => x.number == n

/-- Change the share numbered n. -/
def Check.mapShare (c : Check) (n : Nat) (f : Share → Share) : Check :=
  { c with shares := c.shares.map fun x => if x.number = n then f x else x }

/-- The state settling gives, the first line that holds (R8). -/
def Check.settledState (c : Check) : CheckState :=
  if c.parked.isSome then .barrier
  else if 0 < c.inPool then .tendering
  else if 0 < c.totals.d ∧ c.shares.all Share.isPaid then .settled
  else if c.begun then .tendering
  else .opened

/-- Settle a check; a move into SETTLED queues CHECK SETTLED (R8). -/
def State.settleCheck (s : State) (n : Nat) : State :=
  match s.check n with
  | none => s
  | some c =>
    let new := c.settledState
    let s' := s.putCheck { c with state := new }
    if new = .settled ∧ c.state ≠ .settled then s'.offer (checkSettledNotice n c.totals.d (c.nextReceipt - 1)) else s'

/-! ### Holds, releases and posts (R6, R7) -/

/-- A hold request: p moves from open to held, and the new tender is counted (R6). -/
def Check.hold (c : Check) (share p : Nat) : Check :=
  { c.mapShare share (fun x => { x with held := x.held + p, openAmt := x.openAmt - p }) with inPool := c.inPool + 1 }

/-- A release request: r moves from held to open (R6). -/
def Check.release (c : Check) (share r : Nat) : Check :=
  c.mapShare share fun x => { x with held := x.held - r, openAmt := x.openAmt + r }

/-- A post request: ps moves from held to paid, pt is added to the tips, the receipt number is taken and payment has begun (R7). -/
def Check.post (c : Check) (share ps pt : Nat) : Check :=
  { c.mapShare share (fun x => { x with paid := x.paid + ps, held := x.held - ps, tipsPaid := x.tipsPaid + pt }) with
    nextReceipt := c.nextReceipt + 1, begun := true }

/-- Release r of a share's held amount, if the check is in use. -/
def State.releaseHold (s : State) (check share r : Nat) : State :=
  match s.check check with
  | some c => s.putCheck (c.release share r)
  | none => s

/-! ### Applying a change (R18, R20 to R24, R40) -/

/-- The lines after ADD ITEM: one more, not voided (R2). -/
def addLine (lines : List LineEntry) (price quantity taxClass : Nat) (seats : U32) : List LineEntry :=
  lines ++ [{ price := price, quantity := quantity, taxClass := taxClass, seats := seats, voided := false }]

/-- The lines after the void of line n (R22). -/
def voidLine (lines : List LineEntry) (n : Nat) : List LineEntry := lines.modify (n - 1) fun l => { l with voided := true }

/-- The seats lo + 1 to hi as a set (R24). -/
def seatRange (lo hi : Nat) : U32 := BitVec.ofNat 32 (2 ^ hi - 2 ^ lo)

/-- The plan after SET COVERS: under BY SEAT the new seats join the group of share k (R24). -/
def SplitPlan.withCovers (plan : SplitPlan) (old new : Nat) : SplitPlan :=
  match plan with
  | .bySeat groups => .bySeat (groups.modify (groups.length - 1) fun g => g ||| seatRange (min old new) new)
  | .whole | .even _ | .byAmount _ _ => plan

/-- Recompute a check whose payment has not begun: totals, limits, shares built anew (R4, R18, R25). -/
def recompute (st : Settings) (c : Check) : Except Reason Check :=
  let t := computeTotals st c.mode c.covers c.lines
  match engineRefusal c.plan t with
  | some r => .error r
  | none => .ok { c with totals := t, shares := buildShares st c.plan c.lines c.covers t }

/-- The remainder share's growth under payment lock (R21, R40). -/
def growRemainder (st : Settings) (shares : List Share) (increase amount : Nat) : List Share :=
  let all := if shares.any fun x => x.number == 25 then shares else shares ++ [newShare 25 0 0 0 0]
  all.map fun x =>
    if x.number = 25 then
      { x with due := x.due + increase, openAmt := x.openAmt + increase, tipBase := x.tipBase + tipBaseOf st amount increase }
    else x

/-- Commit an ADD ITEM under payment lock: new totals, and the increase to share 25 (R21, R40). -/
def recomputeLocked (st : Settings) (c : Check) (d amount : Nat) : Except Reason Check :=
  let t := computeTotals st c.mode c.covers c.lines
  match engineRefusal c.plan t with
  | some r => .error r
  | none => .ok { c with totals := t, shares := growRemainder st c.shares (t.d - d) amount }

/-- Apply a change to a check as it stands, by the tests of its own rule and the trial; the changed check, or the reason it is
refused (R18). -/
def applyChange (st : Settings) (free : Nat) (c : Check) (ch : Change) : Except Reason Check :=
  match ch with
  | .addItem price quantity taxClass seats =>
    if !seatsWithin seats c.covers then .error .range
    else if Config.maxLines ≤ c.lines.length ∨ free = 0 then .error .linesFull
    else
      let lines := addLine c.lines price quantity taxClass seats
      if c.begun then recomputeLocked st { c with lines := lines } c.totals.d (price * quantity)
      else recompute st { c with lines := lines }
  | .voidItem line =>
    if c.begun then .error .paidLock
    else
      match if line = 0 then none else c.lines[line - 1]? with
      | none => .error .range
      | some l => if l.voided then .error .range else recompute st { c with lines := voidLine c.lines line }
  | .setSplit plan =>
    if c.begun then .error .paidLock
    else if !plan.fits c.covers c.totals.d then .error .range
    else recompute st { c with plan := plan }
  | .setCovers covers =>
    if c.begun then .error .paidLock
    else if c.lines.any fun l => !seatsWithin l.seats covers then .error .range
    else
      match c.plan with
      | .bySeat groups =>
        if groups.any fun g => !seatsWithin g covers then .error .range
        else recompute st { c with covers := covers, plan := c.plan.withCovers c.covers covers }
      | .whole | .even _ | .byAmount _ _ => recompute st { c with covers := covers }

/-- The line number a change names in its record and notice: the line assigned, the line voided, or 0 (R19, R120). -/
def changeLine (c : Check) : Change → Nat
  | .addItem .. => c.lines.length
  | .voidItem line => line
  | .setSplit _ | .setCovers _ => 0

/-- The CHANGE APPLIED record of a committed change (R18, R120, R179); DEDUCED: share 25 under payment lock (log 13). -/
def changeRecord (c : Check) (ch : Change) (fromBarrier : Bool) : JournalRecord :=
  { kind := .changeApplied, check := c.number, share := if c.begun then 25 else 0, amount := c.totals.d,
    receipt := changeLine c ch, flags := ch.code, barrier := fromBarrier }

/-- Commit a changed check and write its record (R18). -/
def State.commitChange (s : State) (c : Check) (ch : Change) (fromBarrier : Bool) : State :=
  (s.putCheck c).appendRecord (changeRecord c ch fromBarrier)

/-- The data of the reply to a change applied at once (R20, R22, R23, R24). -/
def changeData (c : Check) : Change → Bytes
  | .addItem .. => le 1 c.lines.length ++ le 4 c.totals.d
  | .voidItem _ => le 4 c.totals.d
  | .setSplit _ => le 4 c.shares.length
  | .setCovers _ => le 4 c.totals.d

/-- Take a check change that has passed the tests of R10, by R17. -/
def takeChange (n : Nat) (tag : U8) (ch : Change) (s : State) : State × Reply :=
  match s.check n with
  | none => s.refuse .noCheck
  | some c =>
    if c.parked.isSome then s.refuse .busy
    else
      match applyChange s.store.settings (linesFree s.checks) c ch with
      | .error r => s.refuse r
      | .ok c' =>
        if c.inPool = 0 then ((s.commitChange c' ch false).settleCheck n, .accepted (changeData c' ch))
        else ((s.putCheck { c with parked := some { change := ch, tag := tag } }).settleCheck n, .parked)

/-- Apply or refuse a parked change when the check's last tender has left, with its notice (R9, R18, R19). -/
def State.applyParked (s : State) (c : Check) (p : Parked) : State :=
  let bare := { c with parked := none }
  match applyChange s.store.settings (linesFree s.checks) bare p.change with
  | .error r => (s.putCheck bare).offer (changeRefusedNotice c.number p.change.code p.tag r)
  | .ok c' =>
    let line := match p.change with
      | .addItem .. => c'.lines.length
      | .voidItem _ | .setSplit _ | .setCovers _ => 0
    (s.commitChange c' p.change true).offer (changeAppliedNotice c.number p.change.code p.tag c'.totals.d line)

/-- The departure of a tender reaches the Check Table (R9). -/
def State.departure (s : State) (n : Nat) : State :=
  match s.check n with
  | none => s
  | some c0 =>
    let c := { c0 with inPool := c0.inPool - 1 }
    let s1 := s.putCheck c
    if 0 < c.inPool then s1
    else
      match c.parked with
      | some p => (s1.applyParked c p).settleCheck n
      | none => s1.settleCheck n

/-! ### Freeing (R16, R109) -/

/-- The slot entry after check n is freed: a slot bound to it becomes IDLE, a probe that would restore the binding will restore IDLE,
and either gets the IDLE display and keeps its pending outcome (R16). -/
def SlotEntry.freed (checks : List Check) (n : Nat) (e : SlotEntry) : SlotEntry :=
  if e.mode = .routed (.bound n) then ({ e with mode := .routed .idle }).placeMode checks .idle
  else if e.mode = .probe (.bound n) then ({ e with mode := .probe .idle }).placeMode checks .idle
  else e

/-- The fill record after check n is freed: a running fill toward it sets target freed (R109). -/
def FillRecord.freed (f : FillRecord) (n : Nat) : FillRecord :=
  if f.state ≠ .none ∧ f.mode = .bound n then { f with targetFreed := true } else f

/-- Free a record (R16). -/
def State.freeCheck (s : State) (n : Nat) : State :=
  let checks := s.checks.filter fun c => c.number != n
  let radio := s.radio.mapSlots (SlotEntry.freed checks n)
  (s.setChecks checks).setRadio { radio with fill := s.radio.fill.freed n }

/-! ### The commands (R10 to R15, R20 to R24) -/

/-- A new record: empty, its plan's shares built with D = 0 (R11). -/
def newCheck (st : Settings) (n table covers : Nat) (mode : ServiceMode) (plan : SplitPlan) : Check :=
  { number := n, table := table, covers := covers, mode := mode, state := .opened, lines := [], plan := plan, totals := {},
    shares := buildShares st plan [] covers {}, begun := false, inPool := 0, parked := none, nextReceipt := 1 }

/-- The plan an OPEN CHECK carries, NONE when absent (R11); none where R10 test 2 refuses it. -/
def planOfOption : Option PlanBytes → Option SplitPlan
  | none => some .whole
  | some p => planOfBytes p

/-- OPEN CHECK (R10, R11). -/
def openCheck (check table : U16) (covers mode : U8) (plan : Option PlanBytes) (s : State) : State × Reply :=
  if s.halted then s.refuse .state
  else if check = 0 ∨ table = 0 ∨ 999 < table.toNat ∨ covers = 0 ∨ 24 < covers.toNat then s.refuse .range
  else
    match ServiceMode.ofCode mode, planOfOption plan with
    | some m, some p =>
      if (s.check check.toNat).isSome then s.refuse .inUse
      else if !p.fits covers.toNat 0 then s.refuse .range
      else if Config.maxChecks ≤ s.checks.length then s.refuse .tableFull
      else
        let c := newCheck s.store.settings check.toNat table.toNat covers.toNat m p
        (((s.setChecks (s.checks ++ [c])).settleCheck c.number).appendRecord
          { kind := .checkOpened, check := c.number, share := c.covers, amount := c.table, flags := m.code },
         .accepted (le 4 c.shares.length))
    | _, _ => s.refuse .range

/-- ADD ITEM (R10, R17, R20). -/
def addItem (tag : U8) (check : U16) (price : U32) (quantity taxClass : U8) (seats : U32) (s : State) : State × Reply :=
  if s.halted then s.refuse .state
  else if check = 0 ∨ 2000000 < price.toNat ∨ quantity = 0 ∨ 99 < quantity.toNat ∨ 3 < taxClass.toNat ∨ !seatsWithin seats 24 then
    s.refuse .range
  else takeChange check.toNat tag (.addItem price.toNat quantity.toNat taxClass.toNat seats) s

/-- VOID ITEM (R10, R17, R22). -/
def voidItem (tag : U8) (check : U16) (line : U8) (s : State) : State × Reply :=
  if s.halted then s.refuse .state
  else if check = 0 ∨ line = 0 ∨ 96 < line.toNat then s.refuse .range
  else takeChange check.toNat tag (.voidItem line.toNat) s

/-- SET SPLIT (R10, R17, R23). -/
def setSplit (tag : U8) (check : U16) (plan : PlanBytes) (s : State) : State × Reply :=
  if s.halted then s.refuse .state
  else if check = 0 then s.refuse .range
  else
    match planOfBytes plan with
    | none => s.refuse .range
    | some p => takeChange check.toNat tag (.setSplit p) s

/-- SET COVERS (R10, R17, R24). -/
def setCovers (tag : U8) (check : U16) (covers : U8) (s : State) : State × Reply :=
  if s.halted then s.refuse .state
  else if check = 0 ∨ covers = 0 ∨ 24 < covers.toNat then s.refuse .range
  else takeChange check.toNat tag (.setCovers covers.toNat) s

/-- A share record of CHECK QUERY, 34 bytes (R13, R176). -/
def Share.bytes (x : Share) : Bytes :=
  le 1 x.number ++ le 4 x.group.toNat ++ le 4 x.fixed ++ le 4 x.due ++ le 4 x.paid ++ le 4 x.held ++ le 4 x.openAmt
    ++ le 4 x.tipsPaid ++ le 4 x.tipBase ++ flag x.isPaid

/-- The SUMMARY of a check (R13). -/
def Check.summary (c : Check) : Bytes :=
  le 2 c.number ++ le 2 c.table ++ le 1 c.covers ++ [c.mode.code, c.state.code] ++ c.plan.bytes
    ++ le 4 c.totals.s0 ++ le 4 c.totals.s1 ++ le 4 c.totals.s2 ++ le 4 c.totals.s3
    ++ le 4 c.totals.t0 ++ le 4 c.totals.t1 ++ le 4 c.totals.t2 ++ le 4 c.totals.t3
    ++ le 4 c.totals.sc ++ le 4 c.totals.s ++ le 4 c.totals.d ++ flag c.begun ++ le 4 c.inPool ++ le 4 c.nextReceipt
    ++ le 4 c.lines.length
    ++ (match c.parked with | some p => [p.change.code, p.tag] | none => [0, 0])
    ++ le 1 c.shares.length ++ (c.shares.map Share.bytes).flatten

/-- A line entry of CHECK QUERY (R13). -/
def lineBytes (number : Nat) (l : LineEntry) : Bytes :=
  le 1 number ++ le 4 l.price ++ le 1 l.quantity ++ le 1 l.taxClass ++ le 4 l.seats.toNat ++ flag l.voided

/-- Up to 64 line entries from a first line number (R13). -/
def Check.lineList (c : Check) (first : Nat) : Bytes :=
  let shown := (c.lines.drop (first - 1)).take 64
  le 1 shown.length ++ ((List.range shown.length).map fun i =>
    match shown[i]? with
    | some l => lineBytes (first + i) l
    | none => []).flatten

/-- The SUMMARY where the part is LINES: every field 0, the plan in 2 bytes, no share (R176, R177). -/
def noSummary : Bytes := List.replicate 69 0

/-- The lines where the part is SUMMARY: none (R177). -/
def noLines : Bytes := le 1 0

/-- CHECK QUERY (R10, R13). Its data has one form (R177): the SUMMARY, then the lines, the part not asked for 0 or empty. DEDUCED: their
order is that of R13 (log 54), the first line is tested for LINES only (log 37), and an unknown part is refused with the fixed ranges,
before NO CHECK (log 48). -/
def checkQuery (check : U16) (part : QueryPart) (firstLine : U8) (s : State) : State × Reply :=
  if s.halted then s.refuse .state
  else if check = 0 then s.refuse .range
  else
    match part with
    | .other _ => s.refuse .range
    | .summary =>
      match s.check check.toNat with
      | none => s.refuse .noCheck
      | some c => s.accept (c.summary ++ noLines)
    | .lines =>
      if firstLine = 0 ∨ 96 < firstLine.toNat then s.refuse .range
      else
        match s.check check.toNat with
        | none => s.refuse .noCheck
        | some c => s.accept (noSummary ++ c.lineList firstLine.toNat)

/-- CLOSE CHECK (R10, R14). -/
def closeCheck (check : U16) (s : State) : State × Reply :=
  if s.halted then s.refuse .state
  else if check = 0 then s.refuse .range
  else
    match s.check check.toNat with
    | none => s.refuse .noCheck
    | some c =>
      if 0 < c.inPool then s.refuse .busy
      else if c.state = .settled ∨ (c.state = .opened ∧ c.totals.d = 0) then
        ((s.freeCheck c.number).appendRecord
          { kind := .checkClosed, check := c.number, amount := c.totals.d, receipt := c.nextReceipt - 1 }, .accepted [])
      else s.refuse .state

/-- VOID CHECK (R10, R15). -/
def voidCheck (check : U16) (s : State) : State × Reply :=
  if s.halted then s.refuse .state
  else if check = 0 then s.refuse .range
  else
    match s.check check.toNat with
    | none => s.refuse .noCheck
    | some c =>
      if 0 < c.inPool then s.refuse .busy
      else if c.begun then s.refuse .paidLock
      else
        ((s.freeCheck c.number).appendRecord { kind := .checkVoided, check := c.number, amount := c.totals.d }, .accepted [])

end Sys2Proof.Machine
end

