-- ==== Sys2Proof/Machine/StoreList.lean ====
section
/-! DEFINITION. The nonvolatile store and its write list (R143 to R147): the settings by number, the unit each write puts in the
store, the beginning of writes, and the handing of the free backlog to the list (R85). -/

namespace Sys2Proof.Machine

open Sys2Proof

/-! ### Settings by number (R175) -/

def boolNat (b : Bool) : Nat := if b then 1 else 0

def TipBase.value : TipBase → Nat
  | .preTax => 0
  | .postTax => 1

/-- The value of setting n (R175). -/
def Settings.get (st : Settings) (n : Nat) : Nat :=
  match n with
  | 1 => st.taxRate0
  | 2 => st.taxRate1
  | 3 => st.taxRate2
  | 4 => st.taxRate3
  | 5 => st.serviceRate
  | 6 => st.serviceParty
  | 7 => st.tipBase.value
  | 8 => st.tipCap
  | 9 => st.authWait
  | 10 => st.autoDownCount
  | 11 => st.offlineLimit
  | 12 => st.exposureCap
  | 13 => st.forwardWindow
  | 14 => boolNat st.lineEnable0
  | 15 => boolNat st.lineEnable1
  | 16 => boolNat st.lineEnable2
  | 17 => boolNat st.lineEnable3
  | 18 => st.journalBase
  | 19 => st.journalExtent
  | 20 => st.snapDepth
  | 21 => boolNat st.snapSync
  | 22 => boolNat st.snapFreeze
  | 23 => boolNat st.notifyNote
  | 24 => boolNat st.notifyFault
  | 25 => boolNat st.notifySevere
  | 26 => boolNat st.injectEnable
  | _ => 0

/-- The settings with setting n at a value (R175). -/
def Settings.put (st : Settings) (n v : Nat) : Settings :=
  match n with
  | 1 => { st with taxRate0 := v }
  | 2 => { st with taxRate1 := v }
  | 3 => { st with taxRate2 := v }
  | 4 => { st with taxRate3 := v }
  | 5 => { st with serviceRate := v }
  | 6 => { st with serviceParty := v }
  | 7 => { st with tipBase := if v = 0 then .preTax else .postTax }
  | 8 => { st with tipCap := v }
  | 9 => { st with authWait := v }
  | 10 => { st with autoDownCount := v }
  | 11 => { st with offlineLimit := v }
  | 12 => { st with exposureCap := v }
  | 13 => { st with forwardWindow := v }
  | 14 => { st with lineEnable0 := v != 0 }
  | 15 => { st with lineEnable1 := v != 0 }
  | 16 => { st with lineEnable2 := v != 0 }
  | 17 => { st with lineEnable3 := v != 0 }
  | 18 => { st with journalBase := v }
  | 19 => { st with journalExtent := v }
  | 20 => { st with snapDepth := v }
  | 21 => { st with snapSync := v != 0 }
  | 22 => { st with snapFreeze := v != 0 }
  | 23 => { st with notifyNote := v != 0 }
  | 24 => { st with notifyFault := v != 0 }
  | 25 => { st with notifySevere := v != 0 }
  | 26 => { st with injectEnable := v != 0 }
  | _ => st

/-- A number that names a setting (R146, R175). -/
def isSetting (n : Nat) : Bool := decide (1 ≤ n ∧ n ≤ 26)

/-- A setting whose values are a list: TIP BASE and the on/off settings (R147). -/
def isListSetting (n : Nat) : Bool := n == 7 || decide (14 ≤ n ∧ n ≤ 17) || decide (21 ≤ n ∧ n ≤ 26)

/-- The range of a numeric setting (section 7.5, R147). -/
def settingRange (n : Nat) : Nat × Nat :=
  if 1 ≤ n ∧ n ≤ 5 then (0, 2500)
  else if n = 6 then (0, 24)
  else if n = 8 then (0, 100)
  else if n = 9 then (5, 120)
  else if n = 10 then (0, 8)
  else if n = 11 then (0, 1000000)
  else if n = 12 then (0, 10000000)
  else if n = 13 then (1, 8)
  else if n = 18 ∨ n = 19 then (0, 7)
  else if n = 20 then (1, 4096)
  else (0, 1)

/-- A value clamped into the setting's range, EXPOSURE CAP then raised to the exposure (R77, R147). -/
def clampSetting (exposure n v : Nat) : Nat :=
  let r := settingRange n
  let c := max r.1 (min v r.2)
  if n = 12 then max c exposure else c

/-! ### Units and the beginning of a write (R145) -/

/-- The settings copy a setting write puts in the store: into a damaged copy when there is one (the first when both are), otherwise
into the copy with the lower write count; its count one above the other copy's when that is whole, else 1 (R145). -/
def settingsUnit (store : SettingStore) (content : Settings) : StoreUnit :=
  match store.first, store.second with
  | none, none => .settings true { count := 1, settings := content }
  | none, some b => .settings true { count := b.count + 1, settings := content }
  | some a, none => .settings false { count := a.count + 1, settings := content }
  | some a, some b =>
    if a.count ≤ b.count then .settings true { count := b.count + 1, settings := content }
    else .settings false { count := a.count + 1, settings := content }

/-- A room with no forward copy: emptied, never filled, or holding a unit that fails its checksum (R145, log 7). -/
def Room.isEmpty : Room → Bool
  | .empty _ => true
  | .damaged => true
  | .copy _ _ => false

/-- The empty rooms, lowest first. -/
def emptyRooms (rooms : Vector Room 64) : List (Fin 64) := (List.finRange 64).filter fun i => rooms[i].isEmpty

/-- The room that holds the copy of a forward number. -/
def roomOf (rooms : Vector Room 64) (number : Nat) : Option (Fin 64) :=
  (List.finRange 64).find? fun i =>
    match rooms[i] with
    | .copy e _ => e.number == number
    | .empty _ | .damaged => false

/-- The unit a request writes, built at the beginning of its write (R145), and how many free values it read: an append takes an
empty room, which one is free when there are several (log 6), and finds none when all hold copies. -/
def buildUnit (s : State) : StoreRequest → StoreUnit × Nat
  | .setting _ n v _ => (settingsUnit s.store (s.store.settings.put n v), 0)
  | .powerOnSettings => (settingsUnit s.store s.store.settings, 0)
  | .append e next =>
    match emptyRooms s.store.rooms with
    | [] => (.nothing, 0)
    | [i] => (.room i (.copy e next), 0)
    | i :: j :: rest =>
      let rooms := i :: j :: rest
      (.room (rooms.getD (Config.appendRoom s.freeCount % rooms.length) i) (.copy e next), 1)
  | .free number =>
    match roomOf s.store.rooms number with
    | some i => (.room i (.empty (some s.uplink.nextForward)), 0)
    | none => (.nothing, 0)

/-- Whenever no write is in progress, the oldest waiting request begins (R145). -/
def State.beginWrite (s : State) : State :=
  match s.store.current, s.store.waiting with
  | none, r :: rest =>
    let u := buildUnit s r
    (s.setStore { s.store with waiting := rest, current := some { request := r, unit := u.1 } }).setFree (s.freeCount + u.2)
  | _, _ => s

def StoreRequest.isFree : StoreRequest → Bool
  | .free _ => true
  | .setting .. | .powerOnSettings | .append .. => false

def StoreRequest.isSetting : StoreRequest → Bool
  | .setting .. => true
  | .powerOnSettings => true
  | .append .. | .free _ => false

/-- A free request of Uplink Control is waiting in the list or being served from it (R85). -/
def SettingStore.freeListed (st : SettingStore) : Bool :=
  st.waiting.any StoreRequest.isFree || (st.current.map fun w => w.request.isFree).getD false

/-- A setting write is waiting or in progress (R135). -/
def SettingStore.settingListed (st : SettingStore) : Bool :=
  st.waiting.any StoreRequest.isSetting || (st.current.map fun w => w.request.isSetting).getD false

/-- Hand the oldest number of the backlog to the list, when none of its frees is there and the list has room (R85). -/
def State.handFree (s : State) : State :=
  match s.uplink.backlog with
  | n :: _ =>
    if s.store.freeListed = false ∧ s.store.waiting.length < Config.storeListSize then
      s.setStore { s.store with waiting := s.store.waiting ++ [.free n] }
    else s
  | [] => s

/-- What the store does whenever it can: begin the oldest request, take the backlog's next free (R85, R145). -/
def State.pumpStore (s : State) : State := s.beginWrite.handFree.beginWrite

/-- Place a request at the tail of the list, and begin it if nothing is in progress (R144, R145). -/
def State.placeRequest (s : State) (r : StoreRequest) : State :=
  (s.setStore { s.store with waiting := s.store.waiting ++ [r] }).pumpStore

/-- Put a written unit into the store (R145). -/
def SettingStore.write (st : SettingStore) : StoreUnit → SettingStore
  | .settings true c => { st with first := some c }
  | .settings false c => { st with second := some c }
  | .room i content => { st with rooms := st.rooms.set i content }
  | .nothing => st

/-- Damage the unit a write was cut in (R143, R145). -/
def SettingStore.damage (st : SettingStore) : StoreUnit → SettingStore
  | .settings true _ => { st with first := none }
  | .settings false _ => { st with second := none }
  | .room i _ => { st with rooms := st.rooms.set i .damaged }
  | .nothing => st

end Sys2Proof.Machine
end

