-- ==== Sys2Proof/Machine/Uplink.lean ====
section
/-! DEFINITION. Uplink Control (chapter 4): the uplink state and its timeout count, the offline decision, the forward queue, and the
four commands over them. -/

namespace Sys2Proof.Machine

open Sys2Proof

/-! ### The uplink state (R73 to R75) -/

/-- Change the uplink state, with its journal record; the record carries the count before the change (R73). -/
def State.changeUplink (s : State) (new : UplinkState) (cause : SetBy) (count : Nat) : State :=
  (s.setUplink { s.uplink with state := new, setBy := cause }).appendRecord
    { kind := .uplinkChanged, amount := count, flags := uplinkFlags new cause }

/-- An expiry reaches Uplink Control: the count grows, held at 255, and may set the uplink DOWN (R75). DEDUCED: the UPLINK CHANGED
record carries the count as grown (log 17). -/
def State.countExpiry (s : State) : State :=
  let count := min 255 (s.uplink.count + 1)
  let s1 := s.setUplink { s.uplink with count := count }
  if s.store.settings.autoDownCount ≠ 0 ∧ s.uplink.state = .up ∧ s.store.settings.autoDownCount ≤ count then
    (s1.changeUplink .down .auto count).raise .uplinkAutoDown .uplink []
  else s1

/-- An AUTH RESULT taken for an AWAITING tender sets the count to 0 (R54, R75). -/
def State.countAnswer (s : State) : State := s.setUplink { s.uplink with count := 0 }

/-! ### Forwarding (R82) -/

def ForwardEntry.isSent (e : ForwardEntry) : Bool := e.state == .sent
def ForwardEntry.isUnsent (e : ForwardEntry) : Bool := e.state == .unsent
def ForwardEntry.isStoring (e : ForwardEntry) : Bool := e.state == .storing

/-- Set the state of the entry of a number. -/
def markEntry (queue : List ForwardEntry) (number : Nat) (state : ForwardState) : List ForwardEntry :=
  queue.map fun e => if e.number = number then { e with state := state } else e

/-- Forward the oldest UNSENT entries while the uplink is UP and the window has room (R82); the first argument bounds the steps. -/
def forwardWithin : Nat → State → State
  | 0, s => s
  | n + 1, s =>
    if s.uplink.state = .up ∧ (s.uplink.queue.filter ForwardEntry.isSent).length < s.store.settings.forwardWindow then
      match s.uplink.queue.find? ForwardEntry.isUnsent with
      | some e =>
        let s1 := s.offer (forwardNotice e)
        forwardWithin n (s1.setUplink { s1.uplink with queue := markEntry s1.uplink.queue e.number .sent })
      | none => s
    else s

/-- Test forwarding (R82). -/
def State.forwardEntries (s : State) : State := forwardWithin s.uplink.queue.length s

/-- Remove an entry; the exposure falls by its requested amount (R77). -/
def Uplink.remove (u : Uplink) (e : ForwardEntry) : Uplink :=
  { u with queue := u.queue.filter fun x => x.number != e.number, exposure := u.exposure - e.requested }

/-! ### The offline decision (R79, R80) -/

/-- The tests of R79 in order; none when the tender passes. -/
def offlineRefusal (s : State) (t : Tender) : Option OutcomeReason :=
  if t.method = .keyed then some .keyed
  else if s.store.settings.offlineLimit < t.requested then some .offlineLimit
  else if s.store.settings.exposureCap < s.uplink.exposure + t.requested then some .exposure
  else if Config.forwardSize ≤ s.uplink.queue.length + s.uplink.backlog.length ∨ Config.exhausted ≤ s.uplink.nextForward then
    some .forwardFull
  else if Config.storeListSize ≤ s.store.waiting.length then some .storeBusy
  else none

/-- The forward entry of a tender approved offline (R80). -/
def forwardEntryOf (t : Tender) (number clock : Nat) : ForwardEntry :=
  { number := number, tender := t.id, check := t.check, share := t.share, slot := t.slot, requested := t.requested, part := t.part,
    tip := t.tip, method := t.method, token := t.token, time := clock, state := .storing }

/-- Approve a tender offline: number, entry, exposure, append request (R80). -/
def State.approveOffline (s : State) (t : Tender) : State :=
  let e := forwardEntryOf t s.uplink.nextForward s.run.clock
  let next := s.uplink.nextForward + 1
  (s.setUplink { s.uplink with
      queue := s.uplink.queue ++ [e], exposure := s.uplink.exposure + t.requested, nextForward := next }).placeRequest
    (.append e next)

/-! ### Commands (R74, R78, R83 to R86) -/

/-- The uplink state, set by and the count, as they stand (R74). -/
def Uplink.head (u : Uplink) : Bytes := [u.state.code, u.setBy.code] ++ le 4 u.count

/-- UPLINK STATE (R74). -/
def uplinkState (state : U8) (s : State) : State × Reply :=
  if state = 1 then
    let s1 := s.setUplink { s.uplink with count := 0, setBy := .host }
    let s2 := if s.uplink.state = .down then (s1.changeUplink .up .host s.uplink.count).forwardEntries else s1
    (s2, .accepted s2.uplink.head)
  else if state = 0 then
    let s1 := s.setUplink { s.uplink with setBy := .host }
    let s2 := if s.uplink.state = .up then s1.changeUplink .down .host s.uplink.count else s1
    (s2, .accepted s2.uplink.head)
  else s.refuse .range

/-- The journal record of a forward entry (R81, R83, R84). -/
def forwardRecord (kind : RecordKind) (e : ForwardEntry) : JournalRecord :=
  { kind := kind, tender := e.tender, check := e.check, share := e.share, slot := e.slot.val, amount := e.part, tip := e.tip,
    code := e.number }

/-- FORWARD RESULT; `bytes` are the frame's first bytes, for the faults (R83, R84). DEDUCED: an outcome outside the two is refused RANGE,
with no fault, also where the number names no SENT entry (log 62). -/
def forwardResult (bytes : Bytes) (number : U32) (outcome reason : U8) (s : State) : State × Reply :=
  if outcome ≠ 1 ∧ outcome ≠ 2 then s.refuse .range
  else
    match s.uplink.queue.find? fun e => e.number == number.toNat && e.isSent with
    | none => (s.raise .noEntry .serverLine bytes, .refused .noEntry)
    | some e =>
      let u := s.uplink.remove e
      let s1 := (s.setUplink { u with backlog := u.backlog ++ [e.number] }).pumpStore
      let s2 :=
        if outcome = 1 then s1.appendRecord (forwardRecord .forwardAccepted e)
        else
          ((s1.appendRecord { forwardRecord .forwardRejected e with flags := reason, hostReason := true }).offer
            (forwardRejectedNotice e reason)).raise .forwardRejected .uplink bytes
      (s2.forwardEntries, .accepted (le 4 u.exposure ++ le 4 u.queue.length))

/-- FORWARD RESTART (R86). -/
def forwardRestart (s : State) : State × Reply :=
  let n := (s.uplink.queue.filter ForwardEntry.isSent).length
  let queue := s.uplink.queue.map fun e => if e.isSent then { e with state := .unsent } else e
  ((s.setUplink { s.uplink with queue := queue }).forwardEntries, .accepted (le 4 n))

/-- An entry of FORWARD QUERY (R78). -/
def ForwardEntry.listed (e : ForwardEntry) : Bytes :=
  le 4 e.number ++ le 2 e.tender ++ le 2 e.check ++ le 1 e.share ++ [slotByte e.slot] ++ le 4 e.requested ++ le 4 e.time
    ++ [e.state.code]

/-- A number of 32 bits, 0 when exhausted (R78, R175). -/
def wireNumber (n : Nat) : Bytes := le 4 (if Config.exhausted ≤ n then 0 else n)

/-- FORWARD QUERY (R78). -/
def forwardQuery (position : U32) (s : State) : State × Reply :=
  if position = 0 ∨ 64 < position.toNat then s.refuse .range
  else
    let u := s.uplink
    let shown := (u.queue.drop (position.toNat - 1)).take 32
    s.accept (u.head ++ le 4 u.exposure ++ wireNumber u.nextForward ++ le 4 u.queue.length
      ++ le 4 (u.queue.filter ForwardEntry.isSent).length ++ le 4 u.backlog.length ++ le 1 shown.length
      ++ (shown.map ForwardEntry.listed).flatten)

end Sys2Proof.Machine
end

