-- ==== Sys2Proof/Machine/Tenders.lean ====
section
/-! DEFINITION. The Tender Pool (chapter 3): intake and issue, results, expiry, cancel, the ends of store writes, endings and
postings, and the two tender commands. -/

namespace Sys2Proof.Machine

open Sys2Proof

/-! ### The pool -/

def TenderPool.find (p : TenderPool) (id : Nat) : Option Tender := p.pool.find? fun t => t.id == id

def TenderPool.findClosed (p : TenderPool) (id : Nat) : Option ClosedTender := p.closed.find? fun t => t.id == id

/-- Put a changed tender back under its id. -/
def State.putTender (s : State) (t : Tender) : State :=
  s.setTenders { s.tenders with pool := s.tenders.pool.map fun x => if x.id = t.id then t else x }

/-- The issue list of a check (R44). -/
def TenderPool.issueList (p : TenderPool) (check : Nat) : List Tender := p.pool.filter fun t => t.check == check

/-- The head of a check's issue list (R44). -/
def TenderPool.issueHead (p : TenderPool) (check : Nat) : Option Tender := p.pool.find? fun t => t.check == check

/-- The place of a tender in its check's list, from 1 (R44). -/
def TenderPool.issueOrder (p : TenderPool) (t : Tender) : Nat := ((p.issueList t.check).findIdx fun x => x.id == t.id) + 1

/-- The id after n: 65,535 is followed by 1 (R45). -/
def idAfter (n : Nat) : Nat := if 65535 ≤ n then 1 else n + 1

def TenderPool.idUsed (p : TenderPool) (id : Nat) : Bool := (p.find id).isSome || (p.findClosed id).isSome

/-- The next id, passing over ids in the pool and in the closed list; the first argument bounds the candidates (R45). -/
def nextIdWithin : Nat → TenderPool → Nat → Nat
  | 0, _, last => idAfter last
  | n + 1, p, last => if p.idUsed (idAfter last) then nextIdWithin n p (idAfter last) else idAfter last

/-- The id of the next tender: at most 64 candidates are passed over (R45). -/
def TenderPool.nextId (p : TenderPool) : Nat := nextIdWithin 64 p p.lastId

/-- The lowest-numbered free entry (R51). -/
def TenderPool.freeEntry (p : TenderPool) : Nat :=
  ((List.range Config.maxTenders).find? fun i => !p.pool.any fun t => t.entry == i).getD 0

/-- Append to the closed list, dropping the oldest of 16 (R46). -/
def closeTender (closed : List ClosedTender) (t : Tender) (reason : EndReason) (clock : Nat) : List ClosedTender :=
  let all := closed ++
    [{ id := t.id, check := t.check, share := t.share, slot := t.slot, reason := reason, time := clock : ClosedTender }]
  all.drop (all.length - Config.closedSize)

/-- R63 from step 3 on: the tender leaves the issue list, joins the closed list, its slot's in-flight tender is cleared, its entry
freed, and its departure reaches the Check Table. -/
def State.leavePool (s : State) (t : Tender) (reason : EndReason) : State :=
  let s1 := s.setTenders { s.tenders with
    pool := s.tenders.pool.filter (fun x => x.id != t.id), closed := closeTender s.tenders.closed t reason s.run.clock }
  (s1.putSlot t.slot { s1.slot t.slot with inFlight := none }).departure t.check

/-! ### Posting (R64 to R66) -/

/-- A total grown by x, held at its top (R181). -/
def growTotal (total x : Nat) : Nat := min Config.totalTop (total + x)

/-- The shift totals of a slot after a posting (R65 step 4, R181). -/
def SlotEntry.grow (e : SlotEntry) (ps pt : Nat) : SlotEntry :=
  { e with postedCount := growTotal e.postedCount 1, shareTotal := growTotal e.shareTotal ps, tipTotal := growTotal e.tipTotal pt }

/-- The TENDER POSTED record (R65 step 2, R69). -/
def postedRecord (t : Tender) (receipt : Nat) : JournalRecord :=
  { kind := .tenderPosted, tender := t.id, check := t.check, share := t.share, slot := t.slot.val, amount := t.ps, tip := t.pt,
    receipt := receipt, code := t.codeNumber, deferred := t.deferred, clamped := t.clamped }

/-- Steps 1 to 3 of a posting on its check, with the SHARE PAID of R7 after the TENDER POSTED (R65). -/
def State.postToCheck (s : State) (t : Tender) : State :=
  match s.check t.check with
  | none => s
  | some c =>
    let c' := c.post t.share t.ps t.pt
    let x := (c'.share t.share).getD { number := t.share }
    let s1 := ((s.putCheck c').appendRecord (postedRecord t c.nextReceipt)).offer
      (tenderPostedNotice t c.nextReceipt x.paid x.openAmt)
    if x.isPaid then s1.offer (sharePaidNotice c.number x.number x.paid x.tipsPaid) else s1

/-- Post a tender (R65). -/
def State.postTender (s : State) (t : Tender) : State :=
  let s1 := s.postToCheck t
  (s1.putSlot t.slot ((s1.slot t.slot).grow t.ps t.pt)).leavePool t .posted

/-- Post the head of a check's issue list while it is READY (R64, R66); the first argument bounds the postings. -/
def postWithin : Nat → Nat → State → State
  | 0, _, s => s
  | n + 1, check, s =>
    match s.tenders.issueHead check with
    | some t => if t.state = .ready then postWithin n check (s.postTender t) else s
    | none => s

/-- Test a check for posting (R64). -/
def State.postReady (s : State) (check : Nat) : State := postWithin s.tenders.pool.length check s

/-- A tender that ends without posting (R63): its hold is released, the records and messages of the rule that ended it are issued,
it leaves the pool, and when it was the head the new head posts if it is READY. -/
def State.endTender (s : State) (t : Tender) (reason : EndReason) (messages : State → State) : State :=
  let wasHead := s.tenders.issueHead t.check = some t
  let s1 := (messages (s.releaseHold t.check t.share t.hold)).leavePool t reason
  if wasHead then s1.postReady t.check else s1

/-! ### Records and outcomes (R67, R69) -/

/-- A tender's journal record with its share part and tip (R69). -/
def tenderRecord (kind : RecordKind) (t : Tender) : JournalRecord :=
  { kind := kind, tender := t.id, check := t.check, share := t.share, slot := t.slot.val, amount := t.part, tip := t.tip }

/-- OUTCOME APPROVED, or PARTIAL with its unpaid and open amounts (R55, R62, R67). -/
def approvedOutcome (t : Tender) (kind : OutcomeKind) (unpaid openAmt : Nat) : OutcomeItem :=
  { kind := kind, tag := t.tag, tender := t.id, share := t.share, part := t.part, tip := t.tip, deferred := t.deferred,
    clamped := t.clamped, ps := t.ps, pt := t.pt, code := t.codeBytes, unpaid := unpaid, openAmt := openAmt }

/-- OUTCOME DECLINED with the part's reason, or the host's decline byte (R67, R178). -/
def declinedOutcome (t : Tender) (reason : U8) (host : Bool) : OutcomeItem :=
  { kind := .declined, tag := t.tag, tender := t.id, share := t.share, part := t.part, tip := t.tip, reason := reason,
    hostReason := host }

/-- OUTCOME CANCELLED and NO ANSWER carry the id and the share (R67). -/
def plainOutcome (t : Tender) (kind : OutcomeKind) : OutcomeItem :=
  { kind := kind, tag := t.tag, tender := t.id, share := t.share }

/-- End a tender DECLINED, with its record and OUTCOME (R53, R56, R62). -/
def State.decline (s : State) (t : Tender) (reason : U8) (host : Bool) : State :=
  s.endTender t .declined fun s1 =>
    (s1.appendRecord { tenderRecord .tenderDeclined t with flags := reason, hostReason := host }).placeOutcome t.slot
      (declinedOutcome t reason host)

/-! ### Intake and issue (R48 to R53) -/

/-- The fields of a PRESENT (section 3.2). -/
structure Presentment where
  share : Nat
  part : Nat
  tipKind : Nat
  tipValue : Nat
  token : Bytes
  method : EntryMethod
  tag : U8
  deriving DecidableEq, Repr

/-- The check a slot is bound to, if its mode is BOUND. -/
def SlotEntry.boundCheck (e : SlotEntry) : Option Nat :=
  match e.mode with
  | .routed (.bound n) => some n
  | .routed .idle | .routed (.message _) | .routed .muted | .probe _ => none

/-- What intake finds: the first test of R49 that fails, or the check and the share to pay (a bound check not in use: log 44). -/
def intake (s : State) (slot : Slot) (share : Nat) : Except OutcomeReason (Check × Share) :=
  if s.run.state ≠ .serving then .error .notServing
  else if s.run.hold then .error .hold
  else
    match (s.slot slot).boundCheck with
    | none => .error .notAssigned
    | some n =>
      if s.tenders.pool.any fun t => t.slot == slot then .error .slotBusy
      else
        match s.check n with
        | none => .error .noShare
        | some c =>
          if c.state = .barrier then .error .barrier
          else
            match c.share share with
            | none => .error .noShare
            | some x =>
              if x.openAmt = 0 then .error .nothingDue
              else if Config.maxTendersPerCheck ≤ (s.tenders.issueList n).length then .error .checkBusy
              else if Config.maxTenders ≤ s.tenders.pool.length then .error .poolFull
              else .ok (c, x)

/-- The share part of a PRESENT (R50). -/
def sharePart (part openAmt : Nat) : Nat := if part = 0 then openAmt else min part openAmt

/-- The tender a PRESENT issues (R50, R51 steps 1 and 2). -/
def newTender (s : State) (slot : Slot) (p : Presentment) (c : Check) (x : Share) : Tender :=
  let part := sharePart p.part x.openAmt
  let tip := settleTip s.store.settings.tipCap x.tipBase part x.due p.tipKind p.tipValue
  { entry := s.tenders.freeEntry, id := s.tenders.nextId, check := c.number, share := p.share, slot := slot, tag := p.tag,
    method := p.method, token := p.token, part := part, tip := tip.1, clamped := tip.2, hold := part, state := .awaiting,
    cancelRequested := false, ps := 0, pt := 0, code := noCode, deferred := false, forward := 0, expiry := 0,
    issuedAt := s.run.clock }

/-- Issue a tender: entry, id, hold, issue list and in-flight mark (R51 steps 1 to 4). -/
def State.enterPool (s : State) (t : Tender) (c : Check) : State :=
  let s1 := ((s.putCheck (c.hold t.share t.part)).settleCheck t.check).setTenders
    { s.tenders with pool := s.tenders.pool ++ [t], lastId := t.id }
  s1.putSlot t.slot { s1.slot t.slot with inFlight := some t.id }

/-- The online path (R52). -/
def State.issueOnline (s : State) (t : Tender) (c : Check) : State :=
  let t' := { t with expiry := s.run.clock + s.store.settings.authWait }
  ((s.enterPool t' c).offer (authRequestNotice t')).placeDisplay t.slot (.text textAuthorising t.part t.tip)

/-- The offline path (R53, R79, R80). -/
def State.issueOffline (s : State) (t : Tender) (c : Check) : State :=
  match offlineRefusal s t with
  | some r => (s.enterPool t c).decline t r.code false
  | none =>
    let t' := { t with state := .storing, forward := s.uplink.nextForward }
    ((s.enterPool t' c).approveOffline t').placeDisplay t.slot (.text textApproving t.part t.tip)

/-- A PRESENT handed to the Tender Pool: refused with an OUTCOME, or issued (R48, R49, R51). -/
def State.takePresent (s : State) (slot : Slot) (p : Presentment) : State :=
  match intake s slot p.share with
  | .error r => s.placeOutcome slot { kind := .refused, tag := p.tag, reason := r.code }
  | .ok (c, x) =>
    let t := newTender s slot p c x
    match s.uplink.state with
    | .up => s.issueOnline t c
    | .down => s.issueOffline t c

/-- A CANCEL handed to the Tender Pool (R61). -/
def State.takeCancel (s : State) (slot : Slot) (tag : U8) : State :=
  match (s.slot slot).inFlight.bind s.tenders.find with
  | none => s
  | some t =>
    if t.tag ≠ tag then s
    else if t.state = .awaiting then
      (s.putTender { t with cancelRequested := true }).placeDisplay slot (.text textCancelling 0 0)
    else s.placeDisplay slot (.text textTooLate 0 0)

/-! ### Results (R54 to R57) -/

/-- Raise OVER APPROVAL where the approved amount exceeds the requested (R55 step 1, R57); DEDUCED: also one above the range R54 gives
(log 39). -/
def State.overApproval (s : State) (t : Tender) (approved : Nat) (bytes : Bytes) : State :=
  if t.requested < approved then s.raise .overApproval .serverLine bytes else s

/-- The tender after an approval of `a`, at most the requested amount (R55 steps 2 to 4). -/
def Tender.approve (t : Tender) (a : Nat) (code : Bytes) : Tender :=
  { t with ps := min a t.part, pt := a - min a t.part, hold := min a t.part, code := code, state := .ready }

/-- Take an approval (R55). -/
def State.takeApproval (s : State) (t : Tender) (approved : Nat) (code bytes : Bytes) : State :=
  let a := min approved t.requested
  let t' := t.approve a code
  let s1 := ((s.overApproval t approved bytes).putTender t').releaseHold t.check t.share (t.part - t'.ps)
  let openAmt := ((s1.check t.check).bind fun c => c.share t.share).elim 0 Share.openAmt
  let item := if a = t.requested then approvedOutcome t' .approved 0 0
    else approvedOutcome t' .partially (t.part - t'.ps) openAmt
  (s1.placeOutcome t.slot item).postReady t.check

/-- Take a result for a tender whose cancel was requested (R57, R68). DEDUCED: its REVERSAL REQUEST is queued right behind the REVERSAL
SENT record, before the TENDER CANCELLED record (log 65). -/
def State.takeCancelled (s : State) (t : Tender) (approved : Nat) (code bytes : Bytes) : State :=
  let a := min approved t.requested
  s.endTender t .cancelled fun s1 =>
    let s2 :=
      if 0 < approved then
        ((s1.overApproval t approved bytes).appendRecord
          { tenderRecord .reversalSent t with amount := a, tip := 0, code := codeNumber code }).offer
            (reversalNotice t a code .cancelled)
      else s1
    (s2.appendRecord (tenderRecord .tenderCancelled t)).placeOutcome t.slot (plainOutcome t .cancelled)

/-- The state or end reason a tender has come to (R54; log 14). -/
def tenderStanding (p : TenderPool) (id : Nat) : Bytes :=
  match p.find id with
  | some t => [t.state.code]
  | none =>
    match p.findClosed id with
    | some c => [c.reason.code]
    | none => [0]

/-- AUTH RESULT; `bytes` are the frame's first bytes, for the faults (R54). DEDUCED: in HALTED it is refused STATE also where its outcome
is outside the three (log 62). -/
def authResult (bytes : Bytes) (tender : U16) (outcome : U8) (approved : U32) (code : Bytes) (reason : U8) (s : State) :
    State × Reply :=
  if s.halted then s.refuse .state
  else if outcome ≠ 1 ∧ outcome ≠ 2 ∧ outcome ≠ 3 then s.refuse .range
  else
    match s.tenders.find tender.toNat with
    | some t =>
      if t.state = .awaiting then
        let a := if outcome = 3 then 0 else approved.toNat
        let s1 := s.countAnswer
        let s2 :=
          if t.cancelRequested then s1.takeCancelled t a code bytes
          else if 0 < a then s1.takeApproval t a code bytes
          else s1.decline t reason true
        (s2, .accepted (tenderStanding s2.tenders t.id))
      else (s.raise .notAwaiting .serverLine bytes, .refused .notAwaiting)
    | none =>
      match s.tenders.findClosed tender.toNat with
      | some c => (s.raise .lateResult .serverLine bytes, .late c.reason)
      | none => (s.raise .noTender .serverLine bytes, .refused .noTender)

/-! ### Expiry (R58, R141) -/

/-- The expiry time of a tender has been reached (R58); a time past the clock's last value is reached there (R141). DEDUCED: this holds at
once for a tender issued while the clock stands at that value (log 63). -/
def expiryDue (s : State) (t : Tender) : Bool :=
  t.state == .awaiting && (decide (t.expiry ≤ s.run.clock) || s.run.clock == Config.clockTop)

/-- The expiry of a tender as one event (R58, R75). DEDUCED: the order of its effects (log 15). -/
def State.expireTender (s : State) (t : Tender) : State :=
  s.endTender t .timedOut fun s1 =>
    ((((s1.appendRecord (tenderRecord .tenderTimedOut t)).offer (reversalNotice t 0 noCode .timedOut)).placeOutcome t.slot
      (plainOutcome t .noAnswer)).raise .authTimeout .uplink []).countExpiry

/-- AUTH_EXPIRY: the tender named ends TIMED OUT when its time has been reached (R58). -/
def execAuthExpiry (tender : U16) (s : State) : Host.Outcome State Fault Refusal :=
  match s.tenders.find tender.toNat with
  | some t => .next (if s.live && expiryDue s t then s.expireTender t else s)
  | none => .next s

/-! ### The ends of a forward append (R62) -/

/-- A STORING tender whose append completed: READY, deferred, its OUTCOME sent; it may post (R62). -/
def State.storedTender (s : State) (t : Tender) : State :=
  let t' := { t with state := .ready, ps := t.part, pt := t.tip, deferred := true }
  ((s.putTender t').placeOutcome t.slot (approvedOutcome t' .approved 0 0)).postReady t.check

/-! ### TENDER QUERY (R47) -/

/-- A tender in the list of TENDER QUERY 0 (R47). -/
def TenderPool.listed (p : TenderPool) (t : Tender) : Bytes :=
  le 2 t.id ++ le 2 t.check ++ le 1 t.share ++ [slotByte t.slot, t.state.code] ++ le 4 (p.issueOrder t)

/-- A closed tender in that list (R47). -/
def ClosedTender.listed (c : ClosedTender) : Bytes := le 2 c.id ++ le 2 c.check ++ le 1 c.share ++ [c.reason.code]

/-- The tenders by entry (R47). -/
def TenderPool.byEntry (p : TenderPool) : List Tender :=
  (List.range Config.maxTenders).filterMap fun i => p.pool.find? fun t => t.entry == i

/-- All fields of a pool entry, then the seconds left before the expiry time of an AWAITING tender (R47); both are 0 in another state
(log 25). -/
def Tender.fields (t : Tender) (clock : Nat) : Bytes :=
  le 2 t.id ++ le 2 t.check ++ le 1 t.share ++ [slotByte t.slot, t.tag, t.method.code] ++ padded 16 0 t.token ++ le 4 t.part
    ++ le 4 t.tip ++ flag t.clamped ++ le 4 t.requested ++ le 4 t.hold ++ [t.state.code] ++ flag t.cancelRequested
    ++ le 4 t.ps ++ le 4 t.pt ++ padded 6 0x20 t.code ++ flag t.deferred ++ le 4 t.forward
    ++ le 4 (if t.state = .awaiting then min t.expiry Config.clockTop else 0) ++ le 4 t.issuedAt
    ++ le 4 (if t.state = .awaiting then t.expiry - clock else 0)

/-- A closed-list entry (R46, R47). -/
def ClosedTender.fields (c : ClosedTender) : Bytes :=
  le 2 c.id ++ le 2 c.check ++ le 1 c.share ++ [slotByte c.slot, c.reason.code] ++ le 4 c.time

/-- The fields of a pool entry where the case does not hold: 0, and spaces for the approval code (R177). -/
def noTenderFields : Bytes := List.replicate 51 0 ++ List.replicate 6 0x20 ++ List.replicate 17 0

/-- The fields of a closed-list entry where the case does not hold (R177). -/
def noClosedFields : Bytes := List.replicate 11 0

/-- The two lists of TENDER QUERY 0 and the last id assigned (R47). -/
def TenderPool.lists (p : TenderPool) : Bytes :=
  le 1 p.byEntry.length ++ (p.byEntry.map p.listed).flatten ++ le 1 p.closed.length
    ++ (p.closed.map ClosedTender.listed).flatten ++ le 2 p.lastId

/-- Those lists where the case does not hold: empty, and 0 (R177). -/
def noTenderLists : Bytes := le 1 0 ++ le 1 0 ++ le 2 0

/-- TENDER QUERY (R47). Its data has one form (R177): the lists and the last id, a pool entry, a closed entry, the two that the case
does not give empty or 0. DEDUCED: their order is that of R47 (log 54). -/
def tenderQuery (tender : U16) (s : State) : State × Reply :=
  if tender = 0 then
    s.accept (s.tenders.lists ++ noTenderFields ++ noClosedFields)
  else
    match s.tenders.find tender.toNat with
    | some t => s.accept (noTenderLists ++ t.fields s.run.clock ++ noClosedFields)
    | none =>
      match s.tenders.findClosed tender.toNat with
      | some c => s.accept (noTenderLists ++ noTenderFields ++ c.fields)
      | none => s.refuse .noTender

end Sys2Proof.Machine
end

