-- ==== Sys2Proof/Machine/Radio.lean ====
section
/-! DEFINITION. The Radio Line Interface and the Slot Route Map (chapter 5): presence, the terminals' frames by mode, downlink turns,
probes, route changes and fills, and the four commands over slots. -/

namespace Sys2Proof.Machine

open Sys2Proof

/-! ### Presence (R94 to R96) -/

/-- Move a slot's presence; a change on a BOUND slot queues SLOT PRESENCE, which carries the id given (R96). -/
def State.movePresence (s : State) (i : Slot) (new : Presence) (id : Option Bytes) : State :=
  let e := s.slot i
  if e.presence = new then s
  else
    let s1 := s.putSlot i { e with presence := new }
    match e.boundCheck with
    | some n => s1.offer (slotPresenceNotice i new id n (e.inFlight.getD 0))
    | none => s1

/-- Whether a slot is in PROBE. -/
def SlotEntry.probing (e : SlotEntry) : Bool :=
  match e.mode with
  | .probe _ => true
  | .routed _ => false

/-! ### Probes (R110 to R113) -/

/-- One step of the pattern register: stage n is bit n - 1; the new bit is stage 15 exclusive-or stage 14, and enters stage 1
(R111). -/
def lfsrStep (r : BitVec 15) : BitVec 15 := (r <<< 1) ||| (if r.getLsbD 14 != r.getLsbD 13 then 1 else 0)

/-- The output of a step: the bit that entered stage 1 (R111). -/
def lfsrOut (r : BitVec 15) : Bool := (lfsrStep r).getLsbD 0

/-- The register after n steps. -/
def lfsrAfter : Nat → BitVec 15 → BitVec 15
  | 0, r => r
  | n + 1, r => lfsrAfter n (lfsrStep r)

/-- The byte of the next n output bits, the first in the most significant place (R111). -/
def lfsrByte : Nat → BitVec 15 → U8 → U8
  | 0, _, b => b
  | n + 1, r, b => lfsrByte n (lfsrStep r) ((b <<< 1) ||| (if lfsrOut r then 1 else 0))

/-- The next n pattern bytes from a register (R111). -/
def patternBytes : Nat → BitVec 15 → Bytes
  | 0, _ => []
  | n + 1, r => lfsrByte 8 r 0 :: patternBytes n (lfsrAfter 8 r)

/-- The number of 1 bits of a byte. -/
def bitCount (b : U8) : Nat := ((List.range 8).filter fun i => b.getLsbD i).length

/-- The number of bits in which two strings of one length differ (R112). -/
def bitsWrong (a b : Bytes) : Nat := ((List.zipWith (fun x y => bitCount (x ^^^ y)) a b)).sum

/-- An echo turn used without a good ECHO: missed echoes grows by one, held at 255 (R112). -/
def SlotEntry.missEcho (e : SlotEntry) : SlotEntry :=
  match e.echoDue with
  | some _ => { e with missedEchoes := min 255 (e.missedEchoes + 1), echoDue := none }
  | none => e

/-- A good ECHO in an echo turn: the differing bits are added to the error bits, held at 65,535; in another turn it is ignored
(R112). -/
def SlotEntry.takeEcho (e : SlotEntry) (pattern : Bytes) : SlotEntry :=
  match e.echoDue with
  | some r => { e with errorBits := min 65535 (e.errorBits + bitsWrong pattern (patternBytes 32 r)), echoDue := none }
  | none => e

/-- The saved mode restored, no turn of the probe left (R113). -/
def SlotEntry.restored (e : SlotEntry) (saved : RouteMode) : SlotEntry :=
  { e with mode := .routed saved, armed := false, sentNow := none, echoDue := none }

/-- End the probe of a slot, if it is in PROBE: PROBE RESULT, and the saved mode (R113). -/
def State.endProbe (s : State) (early : Bool) (i : Slot) : State :=
  match (s.slot i).mode with
  | .probe saved =>
    let s1 := s.offer (probeResultNotice i (s.slot i) early)
    s1.putSlot i ((s1.slot i).restored saved)
  | .routed _ => s

/-- End every probe early, when the run state becomes HALTED (R104, R113). DEDUCED: in slot order (log 19). -/
def State.endProbes (s : State) : State := (List.finRange 64).foldl (fun s i => s.endProbe true i) s

/-- The probe has sent all its frames, and the echo turn of the last has passed with the superframe that ends (R113). -/
def SlotEntry.probeDone (e : SlotEntry) : Bool :=
  e.probing && e.armed && e.framesSent == e.framesToSend && e.sentNow.isNone

/-- What a boundary does to a probe that goes on: an echo turn left without an event counts as missed (log 19), the frame sent in the
superframe that ends will be answered in the one that begins, and a probe just set up may send (R110, R112). -/
def SlotEntry.nextTurn (e : SlotEntry) : SlotEntry :=
  if e.probing then { e.missEcho with armed := true, echoDue := e.sentNow, sentNow := none } else e

/-- A superframe boundary at one slot (R112, R113). -/
def State.boundaryAt (s : State) (i : Slot) : State :=
  if (s.slot i).probeDone then (s.putSlot i (s.slot i).missEcho).endProbe false i
  else s.putSlot i (s.slot i).nextTurn

/-! ### Terminal frames by mode (R92, R94, R95, R99 to R103) -/

/-- Frames of a slot's terminal reach the part: it is live, the line is enabled and the run state is not HALTED (R91, R92). -/
def State.hears (s : State) (i : Slot) : Bool := s.live && s.slotEnabled i && !s.halted

/-- A good frame from a LOST slot makes it PRESENT before it is handled (R95). -/
def State.foundAgain (s : State) (i : Slot) (id : Option Bytes) : State :=
  if (s.slot i).presence = .lost then s.movePresence i .present id else s

/-- WAKE: the id, the presence, and the mode's display in IDLE, BOUND and MESSAGE (R94). -/
def State.takeWake (s : State) (i : Slot) (id : Bytes) : State :=
  let s1 := s.putSlot i { s.slot i with terminalId := some id }
  let s2 := s1.movePresence i .present (some id)
  match (s2.slot i).mode with
  | .routed m => s2.putSlot i ((s2.slot i).placeMode s2.checks m)
  | .probe _ => s2

/-- One record of a SHARES display (R101). -/
def Share.view (x : Share) : ShareView := { due := x.due, openAmt := x.openAmt, paid := x.isPaid }

/-- The SHARES display of a check (R101): the plan's shares, then share 25 when it exists. -/
def Check.sharesDisplay (c : Check) : Display :=
  .shares c.number c.table c.state c.totals.d ((c.shares.filter fun x => x.number != 25).map Share.view)
    ((c.share 25).map Share.view)

/-- PICK (R101 to R103). -/
def State.takePick (s : State) (i : Slot) : State :=
  match (s.slot i).mode with
  | .routed (.bound n) =>
    match s.check n with
    | some c => s.placeDisplay i c.sharesDisplay
    | none => s
  | .routed .idle => s.placeDisplay i (.text textNotAssigned 0 0)
  | .routed (.message _) | .routed .muted | .probe _ => s

/-- PRESENT: to the Tender Pool from BOUND and PROBE, answered "not assigned" in IDLE, ignored in MESSAGE and MUTED (R100, R102, R103,
R110). -/
def State.handPresent (s : State) (i : Slot) (p : Presentment) : State :=
  match (s.slot i).mode with
  | .routed (.bound _) | .probe _ => s.takePresent i p
  | .routed .idle => s.placeDisplay i (.text textNotAssigned 0 0)
  | .routed (.message _) | .routed .muted => s

/-- CANCEL: to the Tender Pool from BOUND, ignored elsewhere (R100, R102, R103, R110). -/
def State.handCancel (s : State) (i : Slot) (tag : U8) : State :=
  match (s.slot i).mode with
  | .routed (.bound _) => s.takeCancel i tag
  | .routed .idle | .routed (.message _) | .routed .muted | .probe _ => s

/-- The items after an ACK of a number: the pending outcome or the current display that carries it is cleared (R99; item 0 is
stale, log 43). -/
def SlotEntry.acknowledge (e : SlotEntry) (item : Nat) : SlotEntry :=
  if e.outcome.map Prod.fst = some item then { e with outcome := none }
  else if e.display.map Prod.fst = some item then { e with display := none }
  else e

/-- ACK: every mode but MUTED (R99, R103). -/
def State.takeAck (s : State) (i : Slot) (item : Nat) : State :=
  if (s.slot i).mode = .routed .muted then s else s.putSlot i ((s.slot i).acknowledge item)

/-- The id the presence notice of a good frame from a LOST slot carries: the one held, and for a WAKE that or the new one (R94, R95;
log 22). -/
def noticeId (e : SlotEntry) : UplinkMessage → Option Bytes
  | .wake id => if Config.lostWakeCarriesNewId then some id else e.terminalId
  | .pick | .present .. | .cancel _ | .ack _ | .echo _ => e.terminalId

/-- Handle a good frame by its kind and the slot's mode (R94, R99 to R103, R112). -/
def State.handleMessage (s : State) (i : Slot) : UplinkMessage → State
  | .wake id => s.takeWake i id
  | .pick => s.takePick i
  | .present share part tipKind tipValue token method tag =>
    match EntryMethod.ofCode method with
    | some m =>
      s.handPresent i {
        share := share.toNat, part := part.toNat, tipKind := tipKind.toNat, tipValue := tipValue.toNat, token := token,
        method := m, tag := tag }
    | none => s
  | .cancel tag => s.handCancel i tag
  | .ack item => s.takeAck i item.toNat
  | .echo pattern => s.putSlot i ((s.slot i).takeEcho pattern)

/-- A good frame of another kind than ECHO uses an echo turn up (R112). -/
def State.useEchoTurn (s : State) (i : Slot) : UplinkMessage → State
  | .echo _ => s
  | .wake _ | .pick | .present .. | .cancel _ | .ack _ => s.putSlot i (s.slot i).missEcho

/-- Take a good frame at its slot (R92, R95). -/
def State.takeMessage (s : State) (i : Slot) (m : UplinkMessage) : State :=
  ((s.useEchoTurn i m).foundAgain i (noticeId (s.slot i) m)).handleMessage i m

/-- A frame that fails R92: discarded with RADIO FRAME BAD, a missed echo in an echo turn (R92, R112). -/
def State.badFrame (s : State) (i : Slot) (frame : Bytes) : State :=
  (s.putSlot i (s.slot i).missEcho).raise .radioFrameBad (.slot i) frame

/-- A terminal's message delivered with a matching CRC and length; its fields are tested (R92). -/
def State.uplinkTurn (s : State) (i : Slot) (m : UplinkMessage) : State :=
  if !s.hears i then s
  else if m.good then s.takeMessage i m
  else s.badFrame i m.frame

/-! ### Downlink turns (R98, R111) -/

/-- The next PROBE frame goes out at this turn (R98 line 2, R110). -/
def SlotEntry.probeReady (e : SlotEntry) : Bool :=
  e.probing && e.armed && decide (e.framesSent < e.framesToSend) && e.sentNow.isNone

/-- The frame a position is handed at its turn, and its entry afterwards (R98). -/
def SlotEntry.downlinkFrame (i : Slot) (e : SlotEntry) : SlotEntry × Option Bytes :=
  if e.mode = .routed .muted then (e, none)
  else if e.probeReady then
    ({ e with framesSent := e.framesSent + 1, sentNow := some e.pattern, pattern := lfsrAfter 256 e.pattern },
     some (radioFrame 0x85 (le 1 (e.framesSent + 1) ++ patternBytes 32 e.pattern)))
  else if e.presence ≠ .present ∨ e.probing then (e, some (standbyFrame i e))
  else
    match e.outcome with
    | some (n, o) => (e, some (radioFrame 0x81 (o.body n)))
    | none =>
      match e.display with
      | some (n, d) => (e, some (radioFrame d.kind (d.body n)))
      | none => (e, some (standbyFrame i e))

/-- A downlink turn of a position; no frame on a disabled line and in HALTED (R91, R98). -/
def State.downlinkTurn (s : State) (i : Slot) : State :=
  if !s.live then s
  else if s.hears i then
    let r := (s.slot i).downlinkFrame i
    s.putSlot i { r.1 with downlink := r.2 }
  else s.putSlot i { s.slot i with downlink := none }

/-- An echo turn in which no frame was taken (R112). -/
def State.echoTurn (s : State) (i : Slot) : State := if s.hears i then s.putSlot i (s.slot i).missEcho else s

/-- A range report, in every run state on an enabled line (R95). A probe slot that goes LOST ends its probe early first (R113). -/
def State.presenceReport (s : State) (i : Slot) (inRange : Bool) : State :=
  if !(s.live && s.slotEnabled i) then s
  else
    match (s.slot i).presence, inRange with
    | .present, false => (s.endProbe true i).movePresence i .lost (s.slot i).terminalId
    | .lost, true => s.movePresence i .present (s.slot i).terminalId
    | .present, true | .lost, false | .absent, _ => s

/-! ### Superframe boundaries and route fills (R90, R106 to R109, R128) -/

/-- The sync drive at a boundary (R128). -/
def SyncDrive.atBoundary : SyncDrive → SyncDrive
  | .due => .driving
  | .driving => .idle
  | .idle => .idle

/-- The strobes a boundary marks: those of the enabled lines (R90). -/
def Settings.strobes (st : Settings) : Vector Bool 4 := #v[st.lineEnable0, st.lineEnable1, st.lineEnable2, st.lineEnable3]

/-- A superframe boundary: strobes, sync drive, probes in slot order, and a fill half that is due (R90, R107, R112, R113, R128).
DESIGN CHOICE: a probe that completes here ends before the half that is due at the same boundary is judged (log 60). -/
def State.boundary (s : State) : State :=
  if !s.powered then s
  else
    let s1 := s.setRadio { s.radio with
      strobes := s.store.settings.strobes, fillDue := s.radio.fillDue || s.radio.fill.state != .none }
    let s2 := s1.setJournal { s1.journal with drive := s1.journal.drive.atBoundary }
    (List.finRange 64).foldl State.boundaryAt s2

/-- A route change (R106): items cleared, mode set, its display placed. -/
def SlotEntry.route (checks : List Check) (m : RouteMode) (e : SlotEntry) : SlotEntry :=
  ({ e with outcome := none, display := none, mode := .routed m }).placeMode checks m

/-- Set a slot IDLE as R16 gives for a freed check: the pending outcome is kept. -/
def SlotEntry.setIdle (checks : List Check) (e : SlotEntry) : SlotEntry :=
  ({ e with mode := .routed .idle }).placeMode checks .idle

/-- A fill passes over this slot (R108). -/
def State.fillSkips (s : State) (i : Slot) : Bool :=
  (s.slot i).inFlight.isSome || (s.slot i).probing || (!s.slotEnabled i && s.radio.fill.mode != .idle)

/-- Judge one slot of a half (R108). -/
def State.fillSlot (s : State) (i : Slot) : State :=
  let f := s.radio.fill
  if s.fillSkips i then s.setRadio { s.radio with fill := { f with skipped := f.skipped ++ [i.val] } }
  else
    let e := if f.targetFreed then (s.slot i).setIdle s.checks else (s.slot i).route s.checks f.mode
    let s1 := s.putSlot i e
    s1.setRadio { s1.radio with fill := { f with filled := f.filled + 1 } }

/-- The slots of a half, from the first. -/
def halfSlots (first : Nat) : List Slot := (List.finRange 64).filter fun i => decide (first ≤ i.val ∧ i.val < first + 32)

/-- The route fill's half that the last boundary made due (R108). -/
def State.fillHalf (s : State) : State :=
  if !(s.powered && s.radio.fillDue) then s
  else
    let s1 := s.setRadio { s.radio with fillDue := false }
    match s.radio.fill.state with
    | .none => s1
    | .firstHalf =>
      let s2 := (halfSlots 0).foldl State.fillSlot s1
      s2.setRadio { s2.radio with fill := { s2.radio.fill with state := .secondHalf } }
    | .secondHalf =>
      let s2 := (halfSlots 32).foldl State.fillSlot s1
      let s3 := s2.setRadio { s2.radio with fill := { s2.radio.fill with state := .none } }
      s3.offer (fillDoneNotice s3.radio.fill.mode s3.radio.fill.filled s3.radio.fill.skipped)

/-- A route fill is running (R107). -/
def FillRecord.running (f : FillRecord) : Bool := f.state != .none

/-! ### A line turned off (R91) -/

/-- A slot of a line that is turned off: IDLE, ABSENT, no id and no items; its shift totals are kept (R91). -/
def SlotEntry.lineOff (e : SlotEntry) : SlotEntry :=
  { e with mode := .routed .idle, presence := .absent, terminalId := none, outcome := none, display := none }

/-- The radio side after lines that were on are off (R91). -/
def Radio.linesOff (r : Radio) (before after : Settings) : Radio :=
  (List.finRange 64).foldl
    (fun (r : Radio) (i : Fin 64) =>
      if before.lineEnabled (i.val / 16) && !after.lineEnabled (i.val / 16) then { r with slots := r.slots.set i r.slots[i].lineOff }
      else r)
    { r with strobes := Vector.zipWith (fun x y => x && y) r.strobes after.strobes }

/-! ### Commands (R105, R107, R110, R114) -/

/-- The slot a byte names, if it is 0 to 63. -/
def slotOfByte (b : U8) : Option Slot := if h : b.toNat < 64 then some ⟨b.toNat, h⟩ else none

/-- The mode names a check that is not in use (R105 test 6, R107 test 4). -/
def State.unknownTarget (s : State) : RouteMode → Bool
  | .bound n => (s.check n).isNone
  | .idle | .message _ | .muted => false

/-- ROUTE SLOT (R105, R106). -/
def routeSlot (slot mode : U8) (check : U16) (text : Bytes) (s : State) : State × Reply :=
  if s.halted then s.refuse .state
  else
    match slotOfByte slot, routeOfFields mode check text with
    | some i, some m =>
      if !s.slotEnabled i && m != .idle then s.refuse .range
      else if s.radio.fill.running then s.refuse .busy
      else if (s.slot i).probing || (s.slot i).inFlight.isSome then s.refuse .slotBusy
      else if s.unknownTarget m then s.refuse .noCheck
      else
        let s1 := s.putSlot i ((s.slot i).route s.checks m)
        (s1, .accepted ([m.code, (s1.slot i).presence.code] ++ idField (s1.slot i).terminalId))
    | _, _ => s.refuse .range

/-- ROUTE FILL (R107). -/
def routeFill (mode : U8) (check : U16) (text : Bytes) (s : State) : State × Reply :=
  if s.halted then s.refuse .state
  else
    match routeOfFields mode check text with
    | none => s.refuse .range
    | some m =>
      if s.radio.fill.running then s.refuse .busy
      else if s.unknownTarget m then s.refuse .noCheck
      else
        (s.setRadio { s.radio with
          fill := { state := .firstHalf, mode := m, targetFreed := false, filled := 0, skipped := [] } }, .accepted [])

/-- The entry of a slot whose probe begins (R110, R111). -/
def SlotEntry.startProbe (e : SlotEntry) (saved : RouteMode) (frames : Nat) : SlotEntry :=
  { e with
    mode := .probe saved, framesToSend := frames, framesSent := 0, errorBits := 0, missedEchoes := 0,
    pattern := BitVec.allOnes 15, armed := false, sentNow := none, echoDue := none }

/-- PROBE SLOT (R110). -/
def probeSlot (slot : U8) (frames : U32) (s : State) : State × Reply :=
  if s.halted then s.refuse .state
  else
    match slotOfByte slot with
    | none => s.refuse .range
    | some i =>
      if frames = 0 ∨ 255 < frames.toNat ∨ !s.slotEnabled i then s.refuse .range
      else if s.radio.fill.running then s.refuse .busy
      else
        match (s.slot i).mode with
        | .probe _ => s.refuse .slotBusy
        | .routed saved =>
          if (s.slot i).inFlight.isSome then s.refuse .slotBusy
          else if (s.slot i).presence ≠ .present then s.refuse .state
          else (s.putSlot i ((s.slot i).startProbe saved frames.toNat), .accepted [])

/-- The code of the fill state (log 10). -/
def FillState.code : FillState → U8
  | .none => Config.unlistedCode .fillNone
  | .firstHalf => Config.unlistedCode .fillFirstHalf
  | .secondHalf => Config.unlistedCode .fillSecondHalf

/-- A route mode with its check number and text (R114). -/
def RouteMode.fields (m : RouteMode) : Bytes := m.code :: (le 2 m.check ++ m.text)

/-- The mode of a slot with its check number and text (R114). -/
def SlotMode.fields : SlotMode → Bytes
  | .routed m => m.fields
  | .probe _ => (SlotMode.probe .idle).code :: (le 2 0 ++ RouteMode.idle.text)

/-- The saved mode of a slot, IDLE's bytes where there is none (R114, R177). -/
def SlotMode.saved : SlotMode → RouteMode
  | .routed _ => .idle
  | .probe m => m

/-- The fill record of SLOT QUERY (R114). -/
def FillRecord.fields (f : FillRecord) : Bytes := f.state.code :: (f.mode.fields ++ le 4 f.filled ++ slotSet f.skipped)

/-- A route entry of SLOT QUERY (R114); the kind of an item is the kind of its downlink frame (log 38). DEDUCED: the pattern state holds
stage n of the register at bit n - 1 (log 61). -/
def SlotEntry.fields (e : SlotEntry) : Bytes :=
  e.mode.fields ++ e.mode.saved.fields ++ [e.presence.code] ++ idField e.terminalId ++ le 2 (e.inFlight.getD 0)
    ++ (match e.outcome with | some (n, _) => 0x81 :: le 1 n | none => [0, 0])
    ++ (match e.display with | some (n, d) => d.kind :: le 1 n | none => [0, 0])
    ++ le 1 e.nextItem ++ le 4 e.framesToSend ++ le 4 e.framesSent ++ le 4 e.errorBits ++ le 4 e.missedEchoes
    ++ le 4 e.pattern.toNat

/-- Up to 8 route entries from a slot (R114). -/
def State.slotsFrom (s : State) (first : Nat) : List SlotEntry := (s.radio.slots.toList.drop first).take 8

/-- SLOT QUERY (R114). -/
def slotQuery (first : U8) (s : State) : State × Reply :=
  match slotOfByte first with
  | none => s.refuse .range
  | some i =>
    let shown := s.slotsFrom i.val
    s.accept (s.radio.fill.fields ++ le 1 shown.length ++ (shown.map SlotEntry.fields).flatten)

/-! ### The events of the radio side, one meaning for each row -/

/-- SUPERFRAME_BOUNDARY (R90). -/
def execSuperframeBoundary (s : State) : Host.Outcome State Fault Refusal := .next s.boundary

/-- FILL_HALF (R108). -/
def execFillHalf (s : State) : Host.Outcome State Fault Refusal := .next s.fillHalf

/-- DOWNLINK_TURN (R98). -/
def execDownlinkTurn (slot : Slot) (s : State) : Host.Outcome State Fault Refusal := .next (s.downlinkTurn slot)

/-- ECHO_TURN (R112). -/
def execEchoTurn (slot : Slot) (s : State) : Host.Outcome State Fault Refusal := .next (s.echoTurn slot)

/-- PRESENCE_REPORT (R95). -/
def execPresenceReport (slot : Slot) (inRange : Bool) (s : State) : Host.Outcome State Fault Refusal :=
  .next (s.presenceReport slot inRange)

/-- WAKE (R94). -/
def execWake (slot : Slot) (terminalId : Bytes) (s : State) : Host.Outcome State Fault Refusal :=
  .next (s.uplinkTurn slot (.wake terminalId))

/-- PICK (R101). -/
def execPick (slot : Slot) (s : State) : Host.Outcome State Fault Refusal := .next (s.uplinkTurn slot .pick)

/-- PRESENT (R48, R92). -/
def execPresent (slot : Slot) (share : U8) (part : U32) (tipKind : U8) (tipValue : U32) (token : Bytes) (method tag : U8)
    (s : State) : Host.Outcome State Fault Refusal :=
  .next (s.uplinkTurn slot (.present share part tipKind tipValue token method tag))

/-- CANCEL (R61). -/
def execCancel (slot : Slot) (tag : U8) (s : State) : Host.Outcome State Fault Refusal := .next (s.uplinkTurn slot (.cancel tag))

/-- ACK (R99). -/
def execAck (slot : Slot) (item : U8) (s : State) : Host.Outcome State Fault Refusal := .next (s.uplinkTurn slot (.ack item))

/-- ECHO (R112). -/
def execEcho (slot : Slot) (pattern : Bytes) (s : State) : Host.Outcome State Fault Refusal :=
  .next (s.uplinkTurn slot (.echo pattern))

/-- BAD_UPLINK_FRAME (R92): the frame as it came; one that passes every test is taken as the message it is (log 30). -/
def execBadUplinkFrame (slot : Slot) (frame : Bytes) (s : State) : Host.Outcome State Fault Refusal :=
  .next
    (if !s.hears slot then s
     else
       match goodUplink frame with
       | some m => s.takeMessage slot m
       | none => s.badFrame slot frame)

end Sys2Proof.Machine
end

