-- ==== Sys2Proof/Machine/Run.lean ====
section
/-! DEFINITION. Run Control (chapters 7 and 10) and the two setting commands: SET RUN and the configuration check, the intake hold, the
seconds clock, RUN QUERY, SETTING READ and SETTING WRITE, and the shift commands with the close list. -/

namespace Sys2Proof.Machine

open Sys2Proof

/-! ### SET RUN (R135 to R137) -/

/-- Why the configuration check fails (R136). -/
inductive ConfigCause
  | failedBank (bank : Nat)
  | noLine
  deriving DecidableEq, Repr

def ConfigCause.code : ConfigCause → U8
  | .failedBank _ => Config.unlistedCode .causeFailedBank
  | .noLine => Config.unlistedCode .causeNoLine

def ConfigCause.bank : ConfigCause → Nat
  | .failedBank b => b
  | .noLine => 0

def ConfigCause.source : ConfigCause → FaultSource
  | .failedBank _ => .journal
  | .noLine => .serverLine

/-- Whether bank b lies in the span in force (R115). -/
def Journal.inSpan (j : Journal) (b : Nat) : Bool := (List.range (j.extent + 1)).any fun i => (j.base + i) % 8 == b

/-- The lowest-numbered FAIL bank of the span (R118, R136). -/
def Journal.failedBank (j : Journal) : Option Nat :=
  (List.range 8).find? fun b => j.inSpan b && j.bankResult b == .fail

/-- The configuration check; none when it passes (R136). -/
def configCheck (s : State) : Option ConfigCause :=
  match s.journal.failedBank with
  | some b => some (.failedBank b)
  | none => if (List.range 4).all fun n => !s.store.settings.lineEnabled n then some .noLine else none

/-- A SET RUN out of HALTED (R135, R136); `bytes` are the frame's first bytes, for the fault. -/
def leaveHalted (bytes : Bytes) (new : RunState) (s : State) : State × Reply :=
  if s.journal.testing then s.refuse .busy
  else if s.store.settingListed then s.refuse .busy
  else
    match configCheck s with
    | some c => (s.raise .configCheckFail c.source bytes, .refusedWith .configFault (c.code :: le 1 c.bank))
    | none => (s.changeRun new .setRun, .accepted [new.code])

/-- A SET RUN into HALTED (R137): probes end, a fill goes on. -/
def enterHalted (s : State) : State × Reply :=
  if s.checks ≠ [] ∨ s.tenders.pool ≠ [] ∨ s.uplink.queue ≠ [] then s.refuse .busy
  else ((s.changeRun .halted .setRun).endProbes, .accepted [RunState.halted.code])

/-- SET RUN (R135 to R137). DEDUCED: every accepted one is answered with the new state, also where R137 names no data (log 64). -/
def setRun (bytes : Bytes) (state : U8) (s : State) : State × Reply :=
  match RunState.ofCode state with
  | none => s.refuse .range
  | some new =>
    if new = s.run.state then s.accept [new.code]
    else if s.run.state = .halted then leaveHalted bytes new s
    else if new = .halted then enterHalted s
    else (s.changeRun new .setRun, .accepted [new.code])

/-! ### The intake hold and the clock (R140 to R142) -/

/-- INTAKE HOLD (R140). DEDUCED: while HALTED a value other than on and off is refused STATE, as R140 names first (log 57). -/
def intakeHold (value : U8) (s : State) : State × Reply :=
  if s.halted then s.refuse .state
  else if value = 0 ∨ value = 1 then (s.setRun { s.run with hold := value == 1 }, .accepted [value])
  else s.refuse .range

/-- CLOCK_STEP: one second of the timebase; the clock stops at its last value and stays at 0 in reset (R141, R151). -/
def execClockStep (s : State) : Host.Outcome State Fault Refusal :=
  .next (if s.live then s.setRun { s.run with clock := min Config.clockTop (s.run.clock + 1) } else s)

/-- An AWAITING tender's expiry after the clock is set: the seconds it had left are kept (R60). DEDUCED: one whose time has been reached
has 0 left and stays due; one due only because the clock stands at its top (R141) keeps the seconds to its expiry time (log 31). -/
def Tender.carryOver (t : Tender) (old new : Nat) : Tender :=
  if t.state = .awaiting then { t with expiry := new + (t.expiry - old) } else t

/-- TIME SET (R60, R121, R142). -/
def timeSet (clock : U32) (s : State) : State × Reply :=
  if 4000000000 < clock.toNat then s.refuse .range
  else
    let old := s.run.clock
    let s1 := s.setRun { s.run with clock := clock.toNat, clockSet := true }
    let s2 := s1.setTenders { s1.tenders with pool := s1.tenders.pool.map fun t => t.carryOver old clock.toNat }
    (s2.appendRecord { kind := .timeSet, amount := old }, .accepted (le 4 old ++ le 4 clock.toNat))

/-! ### RUN QUERY (R139) -/

/-- The kind of the request in progress (R139; log 10). -/
def requestCode : Option WriteInProgress → U8
  | none => Config.unlistedCode .requestNone
  | some w =>
    match w.request with
    | .setting .. => Config.unlistedCode .requestSetting
    | .powerOnSettings => Config.unlistedCode .requestSetting
    | .append .. => Config.unlistedCode .requestAppend
    | .free _ => Config.unlistedCode .requestFree

/-- RUN QUERY (R139). DEDUCED: the cause of the last line reset has the codes of the RESTART record, and 0 for none (log 52). -/
def runQuery (s : State) : State × Reply :=
  s.accept ([s.run.state.code] ++ flag s.run.hold ++ le 4 s.run.clock ++ flag s.run.clockSet ++ [s.journal.testCode]
    ++ [requestCode s.store.current] ++ le 4 s.store.waiting.length
    ++ le 4 (s.store.waiting.filter StoreRequest.isSetting).length ++ [(s.run.lastReset.map ResetCause.code).getD 0])

/-! ### SETTING READ and SETTING WRITE (R146, R147) -/

/-- SETTING READ, in one form: the value of the setting named, then a counted list of every setting as its number and value; 0, or an
empty list, where the case does not hold (R146, R175, R177; log 41). DEDUCED: a setting's number takes 1 byte (log 11). -/
def settingRead (setting : U8) (s : State) : State × Reply :=
  if setting = 0 then
    s.accept (le 4 0 ++ le 1 26 ++ ((List.range 26).map fun i => le 1 (i + 1) ++ le 4 (s.store.settings.get (i + 1))).flatten)
  else if isSetting setting.toNat then s.accept (le 4 (s.store.settings.get setting.toNat) ++ le 1 0)
  else s.refuse .range

/-- The reason SETTING WRITE is refused for, the first of its tests that fails (R147). -/
def settingWriteRefusal (s : State) (setting value : Nat) : Option Reason :=
  if s.run.state ≠ .halted then some .state
  else if !isSetting setting || (isListSetting setting && decide (1 < value)) then some .range
  else if Config.storeListSize ≤ s.store.waiting.length then some .busy
  else none

/-- The request a SETTING WRITE places: its value clamped when it is taken (R147). -/
def settingRequest (s : State) (tag : U8) (setting value : Nat) : StoreRequest :=
  .setting tag setting (clampSetting s.uplink.exposure setting value) value

/-- SETTING WRITE (R147): taken, it holds its place for the reply of R148; refused, it is answered at once. -/
def settingWriteCommand (tag setting : U8) (value : U32) (s : State) : State :=
  match settingWriteRefusal s setting.toNat value.toNat with
  | some r => s.owe.queueReply s.line.queue.length ((Reply.refused r).frame 0x29 tag)
  | none => s.owe.placeRequest (settingRequest s tag setting.toNat value.toNat)

/-! ### Shift totals and the close list (R181 to R183) -/

/-- The grand totals of the slots: posted count, share amount, tip amount (R182). -/
structure GrandTotals where
  count : Nat
  share : Nat
  tip : Nat
  deriving DecidableEq, Repr

/-- The sums over all 64 slots (R182). -/
def Radio.grandTotals (r : Radio) : GrandTotals :=
  { count := (r.slots.toList.map SlotEntry.postedCount).sum, share := (r.slots.toList.map SlotEntry.shareTotal).sum,
    tip := (r.slots.toList.map SlotEntry.tipTotal).sum }

def GrandTotals.bytes (g : GrandTotals) : Bytes := highLow g.count ++ highLow g.share ++ highLow g.tip

/-- A slot record of SHIFT QUERY (R182). -/
def shiftRecord (slot : Nat) (e : SlotEntry) : Bytes :=
  le 1 slot ++ idField e.terminalId ++ highLow e.postedCount ++ highLow e.shareTotal ++ highLow e.tipTotal

/-- SHIFT QUERY (R182). -/
def shiftQuery (first : U8) (s : State) : State × Reply :=
  match slotOfByte first with
  | none => s.refuse .range
  | some i =>
    let shown := ((List.finRange 64).drop i.val).take 16
    s.accept (s.radio.grandTotals.bytes ++ le 4 s.run.closeList.length ++ flag s.run.hold ++ le 4 s.tenders.pool.length
      ++ le 1 shown.length ++ (shown.map fun j => shiftRecord j.val (s.slot j)).flatten)

/-- Offer the close list: a SHIFT TOTALS for the oldest entry while fewer than 48 places are taken (R183); the first argument bounds
the entries. -/
def offerWithin : Nat → State → State
  | 0, s => s
  | n + 1, s =>
    match s.run.closeList with
    | [] => s
    | e :: rest =>
      if s.line.places < Config.closeListLimit then
        offerWithin n ((s.setRun { s.run with closeList := rest }).offer (shiftTotalsNotice e))
      else s

/-- Offer the close list (R183). -/
def State.offerCloseList (s : State) : State := offerWithin s.run.closeList.length s

/-- The SHIFT CLOSED record (R183 step 2). -/
def shiftClosedRecord (g : GrandTotals) : JournalRecord :=
  { kind := .shiftClosed, amount := g.share % 4294967296, check := g.share / 4294967296, tip := g.tip % 4294967296,
    tender := g.tip / 4294967296, receipt := min 4294967295 g.count }

/-- The slots a SHIFT CLOSE lists (R183 step 3). -/
def State.closingSlots (s : State) : List Slot := (List.finRange 64).filter fun i => decide (0 < (s.slot i).postedCount)

/-- The close-list entry of a slot (section 10.1). -/
def closeEntryOf (i : Slot) (e : SlotEntry) : CloseEntry :=
  { slot := i.val, terminalId := e.terminalId, count := e.postedCount, share := e.shareTotal, tip := e.tipTotal }

/-- A slot with its totals at 0 where it had postings (R183 step 3). -/
def SlotEntry.zeroed (e : SlotEntry) : SlotEntry :=
  if 0 < e.postedCount then { e with postedCount := 0, shareTotal := 0, tipTotal := 0 } else e

/-- SHIFT CLOSE up to its reply (R183 steps 1 to 4). -/
def shiftClose (s : State) : State × Reply :=
  if !s.run.hold || decide (s.tenders.pool ≠ []) || decide (s.run.closeList ≠ []) then s.refuse .busy
  else
    let g := s.radio.grandTotals
    let entries := s.closingSlots.map fun i => closeEntryOf i (s.slot i)
    let s1 := (s.appendRecord (shiftClosedRecord g)).setRadio (s.radio.mapSlots SlotEntry.zeroed)
    (s1.setRun { s1.run with closeList := entries }, .accepted (le 4 entries.length ++ g.bytes))

/-- SHIFT CLOSE: its reply is queued before the close list is offered (R183). -/
def shiftCloseCommand (tag : U8) (s : State) : State :=
  let r := shiftClose s.owe
  let s1 := r.1.queueReply s.line.queue.length (r.2.frame 0x31 tag)
  if r.2.status = 0 then s1.offerCloseList else s1

end Sys2Proof.Machine
end

