-- ==== Sys2Proof/Machine/Resets.lean ====
section
/-! DEFINITION. Power-on with its reads of the store (R88, R115, R143, R152, R164), the line reset (R87, R93, R122, R133, R149, R150,
R173) and the RESET# pin (R151), and the loss of power (R88, R143). -/

namespace Sys2Proof.Machine

open Sys2Proof

/-! ### The line reset -/

/-- Uplink Control at a line reset (R87). -/
def Uplink.lineReset (u : Uplink) : Uplink :=
  { u with
    state := .down, setBy := .reset, count := 0,
    queue := (u.queue.filter fun e => !e.isStoring).map fun e => { e with state := .unsent },
    exposure := u.exposure - ((u.queue.filter ForwardEntry.isStoring).map ForwardEntry.requested).sum }

/-- The Journal at a line reset, before its RESTART record (R133). -/
def Journal.lineReset (j : Journal) : Journal := { j with snapshot := none, drive := .idle }

/-- The write in progress carries the tag of a command (R150). -/
def SettingStore.owesReply (st : SettingStore) : Bool :=
  match st.current with
  | some w =>
    match w.request with
    | .setting .. => true
    | .powerOnSettings | .append .. | .free _ => false
  | none => false

/-- The server line at a line reset: the framer in HUNT, the queue empty, owed only the reply of the setting write in progress (R166,
R172, R173). -/
def ServerLine.lineReset (l : ServerLine) (owes : Bool) : ServerLine :=
  { ServerLine.start with owed := if owes then 1 else 0, sent := l.sent }

/-- Every block at its line-reset values (R1, R43, R45, R87, R93, R133, R150, R152, R173, R183); a free of the backlog may be handed to
the emptied list at once (R85; log 26). -/
def State.lineReset (s : State) (cause : ResetCause) : State :=
  { s with
    line := s.line.lineReset s.store.owesReply
    checks := []
    tenders := { pool := [], closed := [], lastId := s.tenders.lastId }
    uplink := s.uplink.lineReset
    radio := { Radio.start with strobes := s.radio.strobes }
    journal := s.journal.lineReset
    run := { RunControl.start with lastReset := some cause }
    store := { s.store with waiting := [] }
    faults := .start : State }.pumpStore

/-- The number of entries removed while STORING (R122). -/
def Uplink.storingCount (u : Uplink) : Nat := (u.queue.filter ForwardEntry.isStoring).length

/-- The RESTART record (R122). -/
def restartRecord (cause : ResetCause) (checks tenders storing : Nat) : JournalRecord :=
  { kind := .restart, flags := cause.code, amount := checks, tip := tenders, receipt := storing }

/-- The line reset of a RESET, its RESTART record, and its reply first in the emptied queue (R122, R149). -/
def State.commandReset (s : State) (tag : U8) : State :=
  ((s.lineReset .command).appendRecord
    (restartRecord .command s.checks.length s.tenders.pool.length s.uplink.storingCount)).enqueue ((Reply.accepted []).frame 0x2A tag)

/-- A falling edge of RESET# waits right behind the command that is taken. -/
def State.edgeNext (s : State) : Bool := !s.pinLow && s.pending.head? == some .resetPinFall

/-- RESET (R149). An edge right behind it may have fallen at its moment, which is a free value (log 49): then there is one reset, taken
here, and the pin is low from here on, so that the edge's own row makes no edge. -/
def resetCommand (tag : U8) (s : State) : State :=
  let s1 := s.commandReset tag
  if s.edgeNext then
    (if Config.edgeAtReset s.freeCount then { s1 with pinLow := true, hold := .command } else s1).setFree (s.freeCount + 1)
  else s1

/-- The falling edge of RESET# (R151); a pin already low makes no edge, and without power only its level is taken (log 36). -/
def execResetPinFall (s : State) : Host.Outcome State Fault Refusal :=
  .next
    (if s.pinLow then s
     else
       let s1 := { s with pinLow := true }
       if s.live then (s1.lineReset .pin).setHold (.line s.checks.length s.tenders.pool.length s.uplink.storingCount)
       else s1)

/-- The release of RESET# (R122, R151): the end of a line reset by the pin writes RESTART; the end of a power-on held by the pin does
not, nor that of a RESET, which has written its own (R149). -/
def execResetPinRise (s : State) : Host.Outcome State Fault Refusal :=
  .next
    (let s1 := { s with pinLow := false }
     match s.hold with
     | .none => s1
     | .powerOn => s1.setHold .none
     | .command => s1.setHold .none
     | .line c t f => (s1.setHold .none).appendRecord (restartRecord .pin c t f))

/-! ### Power-on -/

/-- The settings the copies give: those of the whole copy with the higher write count, the only whole one, or the defaults (R143). -/
def loadedSettings (first second : Option SettingsCopy) : Settings :=
  match first, second with
  | some a, some b => if a.count < b.count then b.settings else a.settings
  | some a, none => a.settings
  | none, some b => b.settings
  | none, none => {}

/-- Insert an entry in order of forward number (R88 step 3). -/
def insertEntry (e : ForwardEntry) : List ForwardEntry → List ForwardEntry
  | [] => [e]
  | x :: rest => if e.number < x.number then e :: x :: rest else x :: insertEntry e rest

/-- The entry of a whole forward copy, UNSENT (R88 step 3). -/
def Room.entry : Room → Option ForwardEntry
  | .copy e _ => some { e with state := .unsent }
  | .empty _ | .damaged => none

/-- The next forward number a whole room carries (R88 step 5). -/
def Room.carried : Room → Option Nat
  | .copy _ n => some n
  | .empty n => n
  | .damaged => none

/-- A room that fails its checksum is discarded and given back (R88 step 2). -/
def Room.kept : Room → Room
  | .damaged => .empty none
  | .copy e n => .copy e n
  | .empty n => .empty n

/-- The forward queue the store reloads (R88 step 3). -/
def reloadedQueue (rooms : List Room) : List ForwardEntry := (rooms.filterMap Room.entry).foldr insertEntry []

/-- The next forward number after power-on (R88 step 5). -/
def reloadedNext (rooms : List Room) : Nat :=
  max ((rooms.filterMap Room.carried).foldl max 1) ((((reloadedQueue rooms).map fun e => e.number + 1)).foldl max 0)

/-- Uplink Control after power-on (R88). -/
def reloadedUplink (rooms : List Room) : Uplink :=
  { Uplink.start with
    queue := reloadedQueue rooms, exposure := ((reloadedQueue rooms).map ForwardEntry.requested).sum,
    nextForward := reloadedNext rooms }

/-- Raise STORE ENTRY BAD a number of times (R164). -/
def raiseEntryBad : Nat → State → State
  | 0, s => s
  | n + 1, s => raiseEntryBad n (s.raise .storeEntryBad .store [])

/-- How many units of the store fail their checksum: settings copies, then rooms (R143, R88, R164). -/
def SettingStore.badUnits (st : SettingStore) : Nat :=
  (if st.first.isNone then 1 else 0) + (if st.second.isNone then 1 else 0) + (st.rooms.toList.filter fun r => r == .damaged).length

/-- The settings in force after the reads: EXPOSURE CAP raised to a greater exposure (R88). -/
def reloadedSettings (st : SettingStore) : Settings :=
  let loaded := loadedSettings st.first st.second
  { loaded with exposureCap := max loaded.exposureCap (reloadedUplink st.rooms.toList).exposure }

/-- The part after power-on has read the store, before its faults and its own settings write (R143). -/
def State.reloaded (s : State) : State :=
  { s with
    powered := true
    hold := if s.pinLow then .powerOn else .none
    line := .start
    checks := []
    tenders := .start
    uplink := reloadedUplink s.store.rooms.toList
    radio := .start
    journal := .start (reloadedSettings s.store).journalBase (reloadedSettings s.store).journalExtent
    run := .start
    store := { s.store with
      settings := reloadedSettings s.store, rooms := s.store.rooms.map Room.kept, waiting := [], current := none }
    faults := .start }

/-- Power-on places a setting write: no copy was whole, or the reload raised EXPOSURE CAP (R88, R143). -/
def SettingStore.startWrite (st : SettingStore) : Bool :=
  (st.first.isNone && st.second.isNone) ||
    decide ((loadedSettings st.first st.second).exposureCap < (reloadedUplink st.rooms.toList).exposure)

/-- Power-on (R88, R115, R143, R152, R164). DEDUCED: the FAULT notice queued once the settings are fixed (R155) gives the record as it
was captured, its further-fault bit 0, also where a later read has set the flag (log 58). -/
def State.powerOn (s : State) : State :=
  let s1 := raiseEntryBad s.store.badUnits s.reloaded
  if s.store.startWrite then s1.placeRequest .powerOnSettings else s1

/-- POWER_ON (R143). -/
def execPowerOn (s : State) : Host.Outcome State Fault Refusal := .next s.powerOn

/-! ### Loss of power -/

/-- The store after a loss of power met the write in progress (R143, R145; log 20). -/
def SettingStore.cut (st : SettingStore) (c : PowerCut) : SettingStore :=
  match st.current with
  | none => st
  | some w =>
    match c with
    | .before => st
    | .damaged => st.damage w.unit
    | .after => st.write w.unit

/-- LOSS_OF_POWER (R88, R143): only the store is kept; the rest stands at its start values until power-on sets it (log 40). -/
def execLossOfPower (cut : PowerCut) (s : State) : Host.Outcome State Fault Refusal :=
  .next
    (if !s.powered then s
     else
       { s with
         powered := false
         hold := .none
         line := .start
         checks := []
         tenders := .start
         uplink := .start
         radio := .start
         journal := .start 0 7
         run := .start
         store := { s.store.cut cut with settings := {}, waiting := [], current := none }
         faults := .start })

end Sys2Proof.Machine
end

