-- ==== Sys2Proof/Machine/StoreEvents.lean ====
section
/-! DEFINITION. The ends of store writes (R62, R81, R85, R87, R145, R148), one event for each kind of write and outcome. Each acts when
a write of its kind is in progress and the part has power (log 3); a line reset does not stop the write in progress (R150). -/

namespace Sys2Proof.Machine

open Sys2Proof

/-! ### The end of a write (R145) -/

/-- The write in progress ends with its unit in the store. -/
def State.writeEnds (s : State) (w : WriteInProgress) : State := s.setStore ({ s.store with current := none }.write w.unit)

/-- The write in progress fails, its unit damaged. -/
def State.writeDamages (s : State) (w : WriteInProgress) : State := s.setStore ({ s.store with current := none }.damage w.unit)

/-- The write in progress fails and leaves the store as it was. -/
def State.writeLost (s : State) : State := s.setStore { s.store with current := none }

/-- STORE WRITE FAIL, raised at every failed write (R145). -/
def State.storeFault (s : State) : State := s.raise .storeWriteFail .store []

/-- The STORE WRITE FAIL of the power-on settings write reaches Fault Capture after the raises of the bank test (R164). DEDUCED: while the
test runs it waits for the end of the test, unless a line reset has come between (log 66). -/
def State.startWriteFault (s : State) : State :=
  if s.startingUp then s.setFaults { s.faults with writeFailWaits := true } else s.storeFault

/-! ### Setting writes (R91, R116, R147, R148) -/

/-- A changed JOURNAL BASE or JOURNAL EXTENT re-forms the span (R116, R148). -/
def Journal.follow (j : Journal) (st : Settings) : Journal :=
  if st.journalBase ≠ j.base ∨ st.journalExtent ≠ j.extent then j.reform st.journalBase st.journalExtent else j

/-- Put the value of a completed setting write in force, with its effects (R91, R116, R148; log 45). -/
def State.forceSetting (s : State) (n v : Nat) : State :=
  let after := s.store.settings.put n v
  let s1 := (s.setStore { s.store with settings := after }).setRadio (s.radio.linesOff s.store.settings after)
  let s2 := if n = 18 ∨ n = 19 then s1.setJournal (s1.journal.follow after) else s1
  if n = 13 then s2.forwardEntries else s2

/-- The reply to a completed setting write: the setting, in 1 byte (DEDUCED, log 11), its value in force, and the clamped mark
(R148). -/
def settingDone (n value named : Nat) : Reply := .accepted (le 1 n ++ le 4 value ++ flag (value != named))

/-- The reply to a failed setting write: the setting, in 1 byte (DEDUCED, log 11), and its value in force (R148), in the form of the
completed one, the clamped mark 0 (R177; DEDUCED, log 46). -/
def settingFailed (n value : Nat) : Reply := .refusedWith .busy (le 1 n ++ le 4 value ++ flag false)

/-- SETTING_WRITE_COMPLETE (R148). The write of power-on has no reply (R143). -/
def execSettingWriteComplete (s : State) : Host.Outcome State Fault Refusal :=
  .next
    (match s.powered, s.store.current with
     | true, some w =>
       match w.request with
       | .setting tag n v named =>
         let s1 := (s.writeEnds w).forceSetting n v
         (s1.queueReply s.line.queue.length ((settingDone n (s1.store.settings.get n) named).frame 0x29 tag)).pumpStore
       | .powerOnSettings => (s.writeEnds w).pumpStore
       | .append .. | .free _ => s
     | _, _ => s)

/-- SETTING_WRITE_FAIL (R145, R148, R164). -/
def execSettingWriteFail (s : State) : Host.Outcome State Fault Refusal :=
  .next
    (match s.powered, s.store.current with
     | true, some w =>
       match w.request with
       | .setting tag n _ _ =>
         (((s.writeDamages w).storeFault).queueReply s.line.queue.length
           ((settingFailed n (s.store.settings.get n)).frame 0x29 tag)).pumpStore
       | .powerOnSettings => ((s.writeDamages w).startWriteFault).pumpStore
       | .append .. | .free _ => s
     | _, _ => s)

/-! ### Forward appends (R62, R81, R87) -/

def Uplink.find (u : Uplink) (number : Nat) : Option ForwardEntry := u.queue.find? fun e => e.number == number

/-- A completed append reaches Uplink Control: the entry is UNSENT, DEFERRED APPROVED is written, the tender is answered, forwarding is
tested (R81). An entry that a line reset removed leaves its number to the free backlog (R87). -/
def State.appendDone (s : State) (number : Nat) : State :=
  match s.uplink.find number with
  | some e =>
    let s1 := (s.setUplink { s.uplink with queue := markEntry s.uplink.queue number .unsent }).appendRecord
      (forwardRecord .deferredApproved e)
    let s2 := match s1.tenders.find e.tender with
      | some t => s1.storedTender t
      | none => s1
    s2.forwardEntries
  | none => s.setUplink { s.uplink with backlog := s.uplink.backlog ++ [number] }

/-- A failed append reaches Uplink Control: the entry is removed, the exposure falls, the tender ends DECLINED with reason STORE
(R62, R81). -/
def State.appendLost (s : State) (number : Nat) : State :=
  match s.uplink.find number with
  | some e =>
    let s1 := s.setUplink (s.uplink.remove e)
    match s1.tenders.find e.tender with
    | some t => s1.decline t OutcomeReason.store.code false
    | none => s1
  | none => s

/-- FORWARD_APPEND_COMPLETE (R81, R87). A write that found no empty room cannot complete (R145). -/
def execForwardAppendComplete (s : State) : Host.Outcome State Fault Refusal :=
  .next
    (match s.powered, s.store.current with
     | true, some w =>
       match w.request, w.unit with
       | .append e _, .room _ _ => ((s.writeEnds w).appendDone e.number).pumpStore
       | _, _ => s
     | _, _ => s)

/-- The store after a failed append: no copy is made; whether the room reads as before or fails its checksum is free (R145; log 7). -/
def State.appendFails (s : State) (w : WriteInProgress) : State :=
  (if Config.failedAppendLeavesRoom s.freeCount then s.writeLost else s.writeDamages w).setFree (s.freeCount + 1)

/-- FORWARD_APPEND_FAIL (R81, R145). DEDUCED: the fault is raised after the tender has ended (log 16). -/
def execForwardAppendFail (s : State) : Host.Outcome State Fault Refusal :=
  .next
    (match s.powered, s.store.current with
     | true, some w =>
       match w.request with
       | .append e _ => (((s.appendFails w).appendLost e.number).storeFault).pumpStore
       | .setting .. | .powerOnSettings | .free _ => s
     | _, _ => s)

/-! ### Forward frees (R85) -/

/-- FORWARD_FREE_COMPLETE (R85): the number leaves the backlog, the room is given back, the next free is handed over. -/
def execForwardFreeComplete (s : State) : Host.Outcome State Fault Refusal :=
  .next
    (match s.powered, s.store.current with
     | true, some w =>
       match w.request with
       | .free n => ((s.writeEnds w).setUplink { s.uplink with backlog := s.uplink.backlog.erase n }).pumpStore
       | .setting .. | .powerOnSettings | .append .. => s
     | _, _ => s)

/-- FORWARD_FREE_FAIL (R85): the copy and the number stay, for another try. -/
def execForwardFreeFail (s : State) : Host.Outcome State Fault Refusal :=
  .next
    (match s.powered, s.store.current with
     | true, some w =>
       match w.request with
       | .free _ => (s.writeLost.storeFault).pumpStore
       | .setting .. | .powerOnSettings | .append .. => s
     | _, _ => s)

end Sys2Proof.Machine
end

