-- ==== Sys2Proof/Machine/ServerLine.lean ====
section
/-! DEFINITION. The Server Line Interface (chapter 9): the framer, the tests of a command, its handing to the owning block, the held
command, the sending of frames, and one meaning for each host command of the table. -/

namespace Sys2Proof.Machine

open Sys2Proof

/-! ### Handing a command to its owner (R168, R169, R174) -/

/-- A command that passed R168, handed to its owning block; `bytes` are its frame's first bytes. -/
def runHost (bytes : Bytes) (tag : U8) (c : HostCommand) (s : State) : State :=
  match c with
  | .openCheck check table covers mode plan => s.answer 0x01 tag (openCheck check table covers mode plan)
  | .addItem check price quantity taxClass seats => s.answer 0x02 tag (addItem tag check price quantity taxClass seats)
  | .voidItem check line => s.answer 0x03 tag (voidItem tag check line)
  | .setSplit check plan => s.answer 0x04 tag (setSplit tag check plan)
  | .setCovers check covers => s.answer 0x05 tag (setCovers tag check covers)
  | .checkQuery check part firstLine => s.answer 0x06 tag (checkQuery check part firstLine)
  | .closeCheck check => s.answer 0x07 tag (closeCheck check)
  | .voidCheck check => s.answer 0x08 tag (voidCheck check)
  | .authResult tender outcome approved code reason =>
    s.answer 0x10 tag (authResult bytes tender outcome approved code reason)
  | .tenderQuery tender => s.answer 0x11 tag (tenderQuery tender)
  | .uplinkState state => s.answer 0x14 tag (uplinkState state)
  | .forwardResult number outcome reason => s.answer 0x15 tag (forwardResult bytes number outcome reason)
  | .forwardRestart => s.answer 0x16 tag forwardRestart
  | .forwardQuery position => s.answer 0x17 tag (forwardQuery position)
  | .routeSlot slot mode check text => s.answer 0x18 tag (routeSlot slot mode check text)
  | .routeFill mode check text => s.answer 0x19 tag (routeFill mode check text)
  | .probeSlot slot frames => s.answer 0x1A tag (probeSlot slot frames)
  | .slotQuery first => s.answer 0x1B tag (slotQuery first)
  | .snap kind depth start sync => s.answer 0x20 tag (snap kind depth start sync)
  | .dumpRead => s.answer 0x21 tag dumpRead
  | .journalStatus => s.answer 0x22 tag journalStatus
  | .setRun state => s.answer 0x24 tag (setRun bytes state)
  | .intakeHold value => s.answer 0x25 tag (intakeHold value)
  | .timeSet clock => s.answer 0x26 tag (timeSet clock)
  | .runQuery => s.answer 0x27 tag runQuery
  | .settingRead setting => s.answer 0x28 tag (settingRead setting)
  | .settingWrite setting value => settingWriteCommand tag setting value s
  | .reset => resetCommand tag s
  | .faultRead => s.answer 0x2C tag faultRead
  | .faultClear cls => s.answer 0x2D tag (faultClear cls)
  | .faultMask code mask cls => s.answer 0x2E tag (faultMask code mask cls)
  | .faultInject code => s.answer 0x2F tag (faultInject bytes code)
  | .shiftQuery first => s.answer 0x30 tag (shiftQuery first)
  | .shiftClose => shiftCloseCommand tag s

/-- A command of a known kind, tested by R168 tests 2 to 4 and handed on. -/
def State.takeCommand (s : State) (bytes : Bytes) (tag : U8) (c : HostCommand) : State :=
  if tag = 0 ∨ c.wf = false ∨ c.badCode = true then s.answer c.kind tag fun s1 => s1.refuse .format
  else runHost bytes tag c s

/-! ### Frames (R165 to R168) -/

/-- The body of a frame (R165). -/
def frameBody (f : Bytes) : Bytes := (f.drop 5).take (f.length - 7)

/-- A frame whose CRC matched, tested by R168. -/
def State.deliver (s : State) (f : Bytes) : State :=
  let kind := byteAt f 3
  let tag := byteAt f 4
  if knownKind kind = false then
    ((s.owe.raise .unknownKind .serverLine f).queueReply s.line.queue.length
      { kind := 0xBF, tag := tag, body := [3, Reason.unknownKind.code, kind] })
  else if tag = 0 then s.answer kind tag fun s1 => s1.refuse .format
  else
    match readCommand kind (frameBody f) with
    | none => s.answer kind tag fun s1 => s1.refuse .format
    | some c => s.takeCommand (f.take 8) tag c

/-- A command taken by R167: dispatched while fewer than 64 places are taken, else held (R172). -/
def State.takeFrame (s : State) (f : Bytes) : State :=
  if s.line.places < Config.queuePlaces then s.deliver f
  else s.setLine { s.line with held := some f, framer := .held, rx := [], gapRunning := false }

/-- The CRC of a server-line frame matches (R165, R167). -/
def frameCrcGood (f : Bytes) : Bool := field16 f (f.length - 2) == crc16 ((f.drop 1).take (f.length - 3))

/-- A complete frame is checked (R167). -/
def State.completeFrame (s : State) (f : Bytes) : State :=
  let s1 := s.setLine { s.line with framer := .hunt, rx := [], gapRunning := false }
  if frameCrcGood f then s1.takeFrame f else s1.raise .hostFrameCrc .serverLine f

/-- The framer begins a frame with the bytes given (R166). -/
def ServerLine.begin (l : ServerLine) (rx : Bytes) : ServerLine := { l with framer := .length, rx := rx, gapRunning := true }

/-- The framer in HUNT with nothing kept (R166). -/
def ServerLine.hunting (l : ServerLine) : ServerLine := { l with framer := .hunt, rx := [], gapRunning := false }

/-- The search resumed at the first length byte, after a bad length (R166). -/
def ServerLine.resume (l : ServerLine) (first second : U8) : ServerLine :=
  if first = 0xA5 then l.begin [0xA5, second]
  else if second = 0xA5 then l.begin [0xA5]
  else l.hunting

/-- The length a frame's length bytes give (R165). -/
def frameLength (rx : Bytes) : Nat := (field16 rx 1).toNat

/-- The framer takes a byte in LENGTH (R166). -/
def State.lengthByte (s : State) (b : U8) : State :=
  let rx := s.line.rx ++ [b]
  if rx.length < 3 then s.setLine { s.line with rx := rx }
  else if 2 ≤ frameLength rx ∧ frameLength rx ≤ 1026 then s.setLine { s.line with rx := rx, framer := .collect }
  else (s.setLine (s.line.resume (byteAt rx 1) b)).raise .hostFrameLength .serverLine rx

/-- The framer takes a byte in COLLECT (R166). -/
def State.collectByte (s : State) (b : U8) : State :=
  let rx := s.line.rx ++ [b]
  if rx.length < frameLength rx + 5 then s.setLine { s.line with rx := rx } else s.completeFrame rx

/-- SERVER_BYTE (R166). -/
def execServerByte (byte : U8) (s : State) : Host.Outcome State Fault Refusal :=
  .next
    (if !s.live then s
     else
       match s.line.framer with
       | .hunt => if byte = 0xA5 then s.setLine (s.line.begin [0xA5]) else s
       | .length => s.lengthByte byte
       | .collect => s.collectByte byte
       | .held => s)

/-- GAP_TIMER_EXPIRY (R166): ends the frame being received, if the timer runs. -/
def execGapTimerExpiry (s : State) : Host.Outcome State Fault Refusal :=
  .next
    (if s.live && s.line.gapRunning then (s.setLine s.line.hunting).raise .hostFrameGap .serverLine s.line.rx else s)

/-- HELD_COMMAND_DISPATCH (R172). -/
def execHeldCommandDispatch (s : State) : Host.Outcome State Fault Refusal :=
  .next
    (match s.line.held with
     | none => s
     | some f =>
       if s.live ∧ s.line.places < Config.queuePlaces then
         (s.setLine { s.line with held := none, framer := .hunt }).deliver f
       else s)

/-- FRAME_SENT (R173): the oldest frame leaves the queue, and the close list is offered (R183). -/
def execFrameSent (s : State) : Host.Outcome State Fault Refusal :=
  .next
    (match s.live, s.line.queue with
     | true, f :: rest => (s.setLine { s.line with queue := rest, sent := some f }).offerCloseList
     | _, _ => s)

/-! ### The rows of the host commands -/

/-- A host command as one row: its whole frame has been received and its CRC matched. It is discarded while the part is off or held in
reset and while a command is held, and held when all 64 places are taken (R167, R172; log 4). DESIGN CHOICE: a row whose body is
longer than the 1,024 bytes a frame can carry, an OPEN CHECK with a plan of k = 255, is answered as if it had been carried
(log 55). -/
def State.hostRow (s : State) (tag : U8) (c : HostCommand) : State :=
  if !s.live || s.line.framer == .held then s
  else if s.line.places < Config.queuePlaces then s.takeCommand ((c.frame tag).take 8) tag c
  else s.setLine { s.line with held := some (c.frame tag), framer := .held, rx := [], gapRunning := false }

/-- OPEN_CHECK (R11). -/
def execOpenCheck (tag : U8) (check table : U16) (covers mode : U8) (plan : Option PlanBytes) (s : State) :
    Host.Outcome State Fault Refusal :=
  .next (s.hostRow tag (.openCheck check table covers mode plan))

/-- ADD_ITEM (R20). -/
def execAddItem (tag : U8) (check : U16) (price : U32) (quantity taxClass : U8) (seats : U32) (s : State) :
    Host.Outcome State Fault Refusal :=
  .next (s.hostRow tag (.addItem check price quantity taxClass seats))

/-- VOID_ITEM (R22). -/
def execVoidItem (tag : U8) (check : U16) (line : U8) (s : State) : Host.Outcome State Fault Refusal :=
  .next (s.hostRow tag (.voidItem check line))

/-- SET_SPLIT (R23). -/
def execSetSplit (tag : U8) (check : U16) (plan : PlanBytes) (s : State) : Host.Outcome State Fault Refusal :=
  .next (s.hostRow tag (.setSplit check plan))

/-- SET_COVERS (R24). -/
def execSetCovers (tag : U8) (check : U16) (covers : U8) (s : State) : Host.Outcome State Fault Refusal :=
  .next (s.hostRow tag (.setCovers check covers))

/-- CHECK_QUERY (R13). -/
def execCheckQuery (tag : U8) (check : U16) (part : QueryPart) (firstLine : U8) (s : State) :
    Host.Outcome State Fault Refusal :=
  .next (s.hostRow tag (.checkQuery check part firstLine))

/-- CLOSE_CHECK (R14). -/
def execCloseCheck (tag : U8) (check : U16) (s : State) : Host.Outcome State Fault Refusal :=
  .next (s.hostRow tag (.closeCheck check))

/-- VOID_CHECK (R15). -/
def execVoidCheck (tag : U8) (check : U16) (s : State) : Host.Outcome State Fault Refusal :=
  .next (s.hostRow tag (.voidCheck check))

/-- AUTH_RESULT (R54). -/
def execAuthResult (tag : U8) (tender : U16) (outcome : U8) (approved : U32) (code : Bytes) (reason : U8) (s : State) :
    Host.Outcome State Fault Refusal :=
  .next (s.hostRow tag (.authResult tender outcome approved code reason))

/-- TENDER_QUERY (R47). -/
def execTenderQuery (tag : U8) (tender : U16) (s : State) : Host.Outcome State Fault Refusal :=
  .next (s.hostRow tag (.tenderQuery tender))

/-- UPLINK_STATE (R74). -/
def execUplinkState (tag state : U8) (s : State) : Host.Outcome State Fault Refusal :=
  .next (s.hostRow tag (.uplinkState state))

/-- FORWARD_RESULT (R83). -/
def execForwardResult (tag : U8) (number : U32) (outcome reason : U8) (s : State) : Host.Outcome State Fault Refusal :=
  .next (s.hostRow tag (.forwardResult number outcome reason))

/-- FORWARD_RESTART (R86). -/
def execForwardRestart (tag : U8) (s : State) : Host.Outcome State Fault Refusal :=
  .next (s.hostRow tag .forwardRestart)

/-- FORWARD_QUERY (R78). -/
def execForwardQuery (tag : U8) (position : U32) (s : State) : Host.Outcome State Fault Refusal :=
  .next (s.hostRow tag (.forwardQuery position))

/-- ROUTE_SLOT (R105). -/
def execRouteSlot (tag slot mode : U8) (check : U16) (text : Bytes) (s : State) : Host.Outcome State Fault Refusal :=
  .next (s.hostRow tag (.routeSlot slot mode check text))

/-- ROUTE_FILL (R107). -/
def execRouteFill (tag mode : U8) (check : U16) (text : Bytes) (s : State) : Host.Outcome State Fault Refusal :=
  .next (s.hostRow tag (.routeFill mode check text))

/-- PROBE_SLOT (R110). -/
def execProbeSlot (tag slot : U8) (frames : U32) (s : State) : Host.Outcome State Fault Refusal :=
  .next (s.hostRow tag (.probeSlot slot frames))

/-- SLOT_QUERY (R114). -/
def execSlotQuery (tag first : U8) (s : State) : Host.Outcome State Fault Refusal :=
  .next (s.hostRow tag (.slotQuery first))

/-- SNAP (R124). -/
def execSnap (tag kind : U8) (depth start : U32) (sync : U8) (s : State) : Host.Outcome State Fault Refusal :=
  .next (s.hostRow tag (.snap kind depth start sync))

/-- DUMP_READ (R130). -/
def execDumpRead (tag : U8) (s : State) : Host.Outcome State Fault Refusal :=
  .next (s.hostRow tag .dumpRead)

/-- JOURNAL_STATUS (R132). -/
def execJournalStatus (tag : U8) (s : State) : Host.Outcome State Fault Refusal :=
  .next (s.hostRow tag .journalStatus)

/-- SET_RUN (R135). -/
def execSetRun (tag state : U8) (s : State) : Host.Outcome State Fault Refusal :=
  .next (s.hostRow tag (.setRun state))

/-- INTAKE_HOLD (R140). -/
def execIntakeHold (tag value : U8) (s : State) : Host.Outcome State Fault Refusal :=
  .next (s.hostRow tag (.intakeHold value))

/-- TIME_SET (R142). -/
def execTimeSet (tag : U8) (clock : U32) (s : State) : Host.Outcome State Fault Refusal :=
  .next (s.hostRow tag (.timeSet clock))

/-- RUN_QUERY (R139). -/
def execRunQuery (tag : U8) (s : State) : Host.Outcome State Fault Refusal :=
  .next (s.hostRow tag .runQuery)

/-- SETTING_READ (R146). -/
def execSettingRead (tag setting : U8) (s : State) : Host.Outcome State Fault Refusal :=
  .next (s.hostRow tag (.settingRead setting))

/-- SETTING_WRITE (R147). -/
def execSettingWrite (tag setting : U8) (value : U32) (s : State) : Host.Outcome State Fault Refusal :=
  .next (s.hostRow tag (.settingWrite setting value))

/-- RESET (R149). -/
def execReset (tag : U8) (s : State) : Host.Outcome State Fault Refusal :=
  .next (s.hostRow tag .reset)

/-- FAULT_READ (R160). -/
def execFaultRead (tag : U8) (s : State) : Host.Outcome State Fault Refusal :=
  .next (s.hostRow tag .faultRead)

/-- FAULT_CLEAR (R161). -/
def execFaultClear (tag cls : U8) (s : State) : Host.Outcome State Fault Refusal :=
  .next (s.hostRow tag (.faultClear cls))

/-- FAULT_MASK (R158). -/
def execFaultMask (tag code mask cls : U8) (s : State) : Host.Outcome State Fault Refusal :=
  .next (s.hostRow tag (.faultMask code mask cls))

/-- FAULT_INJECT (R162). -/
def execFaultInject (tag code : U8) (s : State) : Host.Outcome State Fault Refusal :=
  .next (s.hostRow tag (.faultInject code))

/-- SHIFT_QUERY (R182). -/
def execShiftQuery (tag first : U8) (s : State) : Host.Outcome State Fault Refusal :=
  .next (s.hostRow tag (.shiftQuery first))

/-- SHIFT_CLOSE (R183). -/
def execShiftClose (tag : U8) (s : State) : Host.Outcome State Fault Refusal :=
  .next (s.hostRow tag .shiftClose)

end Sys2Proof.Machine
end

