-- ==== Sys2Proof/Machine/Dispatch.lean ====
section
/-! DEFINITION. The meaning of every command: one arm for each constructor of Instr. -/

namespace Sys2Proof.Machine

open Sys2Proof

def exec (i : Instr) (s : State) : Host.Outcome State Fault Refusal :=
  match i with
  | .powerOn => Sys2Proof.Machine.execPowerOn s
  | .bankTest pass => Sys2Proof.Machine.execBankTest pass s
  | .resetPinFall => Sys2Proof.Machine.execResetPinFall s
  | .resetPinRise => Sys2Proof.Machine.execResetPinRise s
  | .clockStep => Sys2Proof.Machine.execClockStep s
  | .authExpiry tender => Sys2Proof.Machine.execAuthExpiry tender s
  | .superframeBoundary => Sys2Proof.Machine.execSuperframeBoundary s
  | .fillHalf => Sys2Proof.Machine.execFillHalf s
  | .downlinkTurn slot => Sys2Proof.Machine.execDownlinkTurn slot s
  | .echoTurn slot => Sys2Proof.Machine.execEchoTurn slot s
  | .presenceReport slot inRange => Sys2Proof.Machine.execPresenceReport slot inRange s
  | .wake slot terminalId => Sys2Proof.Machine.execWake slot terminalId s
  | .pick slot => Sys2Proof.Machine.execPick slot s
  | .present slot share part tipKind tipValue token method tag => Sys2Proof.Machine.execPresent slot share part tipKind tipValue token method tag s
  | .cancel slot tag => Sys2Proof.Machine.execCancel slot tag s
  | .ack slot item => Sys2Proof.Machine.execAck slot item s
  | .echo slot pattern => Sys2Proof.Machine.execEcho slot pattern s
  | .snapLineFallingEdge => Sys2Proof.Machine.execSnapLineFallingEdge s
  | .serverByte byte => Sys2Proof.Machine.execServerByte byte s
  | .gapTimerExpiry => Sys2Proof.Machine.execGapTimerExpiry s
  | .heldCommandDispatch => Sys2Proof.Machine.execHeldCommandDispatch s
  | .frameSent => Sys2Proof.Machine.execFrameSent s
  | .settingWriteComplete => Sys2Proof.Machine.execSettingWriteComplete s
  | .settingWriteFail => Sys2Proof.Machine.execSettingWriteFail s
  | .forwardAppendComplete => Sys2Proof.Machine.execForwardAppendComplete s
  | .forwardAppendFail => Sys2Proof.Machine.execForwardAppendFail s
  | .forwardFreeComplete => Sys2Proof.Machine.execForwardFreeComplete s
  | .forwardFreeFail => Sys2Proof.Machine.execForwardFreeFail s
  | .openCheck tag check table covers mode plan => Sys2Proof.Machine.execOpenCheck tag check table covers mode plan s
  | .addItem tag check price quantity taxClass seats => Sys2Proof.Machine.execAddItem tag check price quantity taxClass seats s
  | .voidItem tag check line => Sys2Proof.Machine.execVoidItem tag check line s
  | .setSplit tag check plan => Sys2Proof.Machine.execSetSplit tag check plan s
  | .setCovers tag check covers => Sys2Proof.Machine.execSetCovers tag check covers s
  | .checkQuery tag check part firstLine => Sys2Proof.Machine.execCheckQuery tag check part firstLine s
  | .closeCheck tag check => Sys2Proof.Machine.execCloseCheck tag check s
  | .voidCheck tag check => Sys2Proof.Machine.execVoidCheck tag check s
  | .authResult tag tender outcome approved code reason => Sys2Proof.Machine.execAuthResult tag tender outcome approved code reason s
  | .tenderQuery tag tender => Sys2Proof.Machine.execTenderQuery tag tender s
  | .uplinkState tag state => Sys2Proof.Machine.execUplinkState tag state s
  | .forwardResult tag number outcome reason => Sys2Proof.Machine.execForwardResult tag number outcome reason s
  | .forwardRestart tag => Sys2Proof.Machine.execForwardRestart tag s
  | .forwardQuery tag position => Sys2Proof.Machine.execForwardQuery tag position s
  | .routeSlot tag slot mode check text => Sys2Proof.Machine.execRouteSlot tag slot mode check text s
  | .routeFill tag mode check text => Sys2Proof.Machine.execRouteFill tag mode check text s
  | .probeSlot tag slot frames => Sys2Proof.Machine.execProbeSlot tag slot frames s
  | .slotQuery tag first => Sys2Proof.Machine.execSlotQuery tag first s
  | .snap tag kind depth start sync => Sys2Proof.Machine.execSnap tag kind depth start sync s
  | .dumpRead tag => Sys2Proof.Machine.execDumpRead tag s
  | .journalStatus tag => Sys2Proof.Machine.execJournalStatus tag s
  | .setRun tag state => Sys2Proof.Machine.execSetRun tag state s
  | .intakeHold tag value => Sys2Proof.Machine.execIntakeHold tag value s
  | .timeSet tag clock => Sys2Proof.Machine.execTimeSet tag clock s
  | .runQuery tag => Sys2Proof.Machine.execRunQuery tag s
  | .settingRead tag setting => Sys2Proof.Machine.execSettingRead tag setting s
  | .settingWrite tag setting value => Sys2Proof.Machine.execSettingWrite tag setting value s
  | .reset tag => Sys2Proof.Machine.execReset tag s
  | .faultRead tag => Sys2Proof.Machine.execFaultRead tag s
  | .faultClear tag cls => Sys2Proof.Machine.execFaultClear tag cls s
  | .faultMask tag code mask cls => Sys2Proof.Machine.execFaultMask tag code mask cls s
  | .faultInject tag code => Sys2Proof.Machine.execFaultInject tag code s
  | .shiftQuery tag first => Sys2Proof.Machine.execShiftQuery tag first s
  | .shiftClose tag => Sys2Proof.Machine.execShiftClose tag s
  | .lossOfPower cut => Sys2Proof.Machine.execLossOfPower cut s
  | .badUplinkFrame slot frame => Sys2Proof.Machine.execBadUplinkFrame slot frame s

end Sys2Proof.Machine
end

