-- ==== Sys2Proof/Safety.lean ====
section
/-! DEFINITION. What counts as a sound state of the part, and the terms the statements use: when a command row is taken, a reply
queued, the order of the intake tests, and a frame arriving byte by byte. -/

namespace Sys2Proof.Machine

open Sys2Proof

/-! ### Sound states -/

/-- The journal's storage has its canonical form, and its numbers stand in order (R115, R119). -/
abbrev Journal.Formed (j : Journal) : Prop := cellsWf j.cells = true ∧ j.floor ≤ j.next ∧ j.next ≤ Config.exhausted

/-- A class's further-fault flag is set only while its record is held (R153). -/
def FaultCapture.Formed (f : FaultCapture) : Prop :=
  ∀ c, (f.classState c).further = true → (f.classState c).record.isSome = true

/-- While the run state is HALTED, no check is in use and no tender is in the pool (R134). -/
abbrev State.HaltedEmpty (s : State) : Prop := s.run.state = .halted → s.checks = [] ∧ s.tenders.pool = []

/-- A waiting request that owes a reply: a setting write a command asked for (R143, R148). -/
def StoreRequest.isTagged : StoreRequest → Bool
  | .setting .. => true
  | .powerOnSettings | .append .. | .free _ => false

/-- How many setting writes of commands are waiting or in progress (R173). -/
def SettingStore.owing (st : SettingStore) : Nat :=
  (st.waiting.filter StoreRequest.isTagged).length + if st.owesReply then 1 else 0

/-- The lists are within their capacities: at most 8 waiting requests (R144), at most 64 places of the outbound queue taken (R171,
R172), and a reply owed for each setting write of a command that has not ended (R148, R173). -/
abbrev State.ListsFormed (s : State) : Prop :=
  s.store.waiting.length ≤ Config.storeListSize ∧ s.line.places ≤ Config.queuePlaces ∧ s.line.owed = s.store.owing

/-- For every share, due = paid + held + open (R5). -/
abbrev Check.Balanced (c : Check) : Prop := ∀ x ∈ c.shares, x.due = x.paid + x.held + x.openAmt

/-! ### Commands and replies -/

/-- A command row of this tag is tested by its owner: the part is live, no command is held, a place of the outbound queue is free, and
the tag is a command's (R151, R168, R172). -/
abbrev State.takes (s : State) (tag : U8) : Prop :=
  s.live = true ∧ s.line.framer ≠ .held ∧ s.line.places < Config.queuePlaces ∧ tag ≠ 0

/-- The state with the reply of a command of this kind and tag last in the outbound queue (R169). -/
def State.replied (s : State) (kind tag : U8) (r : Reply) : State := s.enqueue (r.frame kind tag)

/-- The state with one slot entry replaced. -/
def State.withSlot (s : State) (i : Slot) (e : SlotEntry) : State :=
  { s with radio := { s.radio with slots := s.radio.slots.set i e } }

/-- The check change a command asks for, with its kind, tag and check number, where the tests of R10 that need no check pass. -/
def changeAsked : Instr → Option (U8 × U8 × U16 × Change)
  | .addItem tag check price quantity taxClass seats =>
    if check ≠ 0 ∧ price.toNat ≤ 2000000 ∧ 1 ≤ quantity.toNat ∧ quantity.toNat ≤ 99 ∧ taxClass.toNat ≤ 3 ∧
        seatsWithin seats 24 = true then
      some (0x02, tag, check, .addItem price.toNat quantity.toNat taxClass.toNat seats)
    else none
  | .voidItem tag check line =>
    if check ≠ 0 ∧ 1 ≤ line.toNat ∧ line.toNat ≤ 96 then some (0x03, tag, check, .voidItem line.toNat) else none
  | .setSplit tag check plan =>
    if check ≠ 0 ∧ plan.wf = true then (planOfBytes plan).map fun p => (0x04, tag, check, .setSplit p) else none
  | .setCovers tag check covers =>
    if check ≠ 0 ∧ 1 ≤ covers.toNat ∧ covers.toNat ≤ 24 then some (0x05, tag, check, .setCovers covers.toNat) else none
  | _ => none

/-- The kind and tag of a command of chapter 1 whose body has the length its kind requires (R10, R176). -/
def checkCommand : Instr → Option (U8 × U8)
  | .openCheck tag _ _ _ _ plan => if plan.all PlanBytes.wf then some (0x01, tag) else none
  | .addItem tag .. => some (0x02, tag)
  | .voidItem tag .. => some (0x03, tag)
  | .setSplit tag _ plan => if plan.wf then some (0x04, tag) else none
  | .setCovers tag .. => some (0x05, tag)
  | .checkQuery tag _ part _ => if part.wf then some (0x06, tag) else none
  | .closeCheck tag _ => some (0x07, tag)
  | .voidCheck tag _ => some (0x08, tag)
  | _ => none

/-- Which command of the server line a row is, with its tag (R174). -/
def hostRowOf : Instr → Option (U8 × HostCommand)
  | .openCheck tag check table covers mode plan => some (tag, .openCheck check table covers mode plan)
  | .addItem tag check price quantity taxClass seats => some (tag, .addItem check price quantity taxClass seats)
  | .voidItem tag check line => some (tag, .voidItem check line)
  | .setSplit tag check plan => some (tag, .setSplit check plan)
  | .setCovers tag check covers => some (tag, .setCovers check covers)
  | .checkQuery tag check part firstLine => some (tag, .checkQuery check part firstLine)
  | .closeCheck tag check => some (tag, .closeCheck check)
  | .voidCheck tag check => some (tag, .voidCheck check)
  | .authResult tag tender outcome approved code reason => some (tag, .authResult tender outcome approved code reason)
  | .tenderQuery tag tender => some (tag, .tenderQuery tender)
  | .uplinkState tag state => some (tag, .uplinkState state)
  | .forwardResult tag number outcome reason => some (tag, .forwardResult number outcome reason)
  | .forwardRestart tag => some (tag, .forwardRestart)
  | .forwardQuery tag position => some (tag, .forwardQuery position)
  | .routeSlot tag slot mode check text => some (tag, .routeSlot slot mode check text)
  | .routeFill tag mode check text => some (tag, .routeFill mode check text)
  | .probeSlot tag slot frames => some (tag, .probeSlot slot frames)
  | .slotQuery tag first => some (tag, .slotQuery first)
  | .snap tag kind depth start sync => some (tag, .snap kind depth start sync)
  | .dumpRead tag => some (tag, .dumpRead)
  | .journalStatus tag => some (tag, .journalStatus)
  | .setRun tag state => some (tag, .setRun state)
  | .intakeHold tag value => some (tag, .intakeHold value)
  | .timeSet tag clock => some (tag, .timeSet clock)
  | .runQuery tag => some (tag, .runQuery)
  | .settingRead tag setting => some (tag, .settingRead setting)
  | .settingWrite tag setting value => some (tag, .settingWrite setting value)
  | .reset tag => some (tag, .reset)
  | .faultRead tag => some (tag, .faultRead)
  | .faultClear tag cls => some (tag, .faultClear cls)
  | .faultMask tag code mask cls => some (tag, .faultMask code mask cls)
  | .faultInject tag code => some (tag, .faultInject code)
  | .shiftQuery tag first => some (tag, .shiftQuery first)
  | .shiftClose tag => some (tag, .shiftClose)
  | .powerOn | .bankTest _ | .resetPinFall | .resetPinRise | .clockStep | .authExpiry _ | .superframeBoundary | .fillHalf
  | .downlinkTurn _ | .echoTurn _ | .presenceReport .. | .wake .. | .pick _ | .present .. | .cancel .. | .ack .. | .echo ..
  | .snapLineFallingEdge | .serverByte _ | .gapTimerExpiry | .heldCommandDispatch | .frameSent | .settingWriteComplete
  | .settingWriteFail | .forwardAppendComplete | .forwardAppendFail | .forwardFreeComplete | .forwardFreeFail | .lossOfPower _
  | .badUplinkFrame .. => none

/-- The row of a terminal's message from a slot (R92). -/
def radioRow (i : Slot) : UplinkMessage → Instr
  | .wake terminalId => .wake i terminalId
  | .pick => .pick i
  | .present share part tipKind tipValue token method tag => .present i share part tipKind tipValue token method tag
  | .cancel tag => .cancel i tag
  | .ack item => .ack i item
  | .echo pattern => .echo i pattern

/-! ### Raises and quiet events -/

/-- The first-fault record of a raise: the code, the source, the first 8 bytes of the frame it concerns, filled with zero bytes, and the
clock (R154). -/
def State.firstFault (s : State) (code : FaultCode) (source : FaultSource) (bytes : Bytes) : FaultRecord :=
  { code := code, source := source, bytes := bytes.take 8 ++ List.replicate (8 - bytes.length) 0, time := s.run.clock }

/-- A raise of this code captures a record: the code is unmasked and its class holds none (R153). -/
abbrev FaultCapture.captures (f : FaultCapture) (c : FaultCode) : Prop :=
  (f.rule c).masked = false ∧ (f.classState (f.rule c).cls).record = none

/-- Fault Capture after a raise whose record would be this one: nothing changed for a masked code; a class with no record holds it, its
further-fault flag clear; a class with a record keeps that and has its flag set (R153). -/
def FaultCapture.judged (f : FaultCapture) (c : FaultCode) (record : FaultRecord) : FaultCapture :=
  if (f.rule c).masked then f
  else f.setClass (f.rule c).cls (match (f.classState (f.rule c).cls).record with
    | none => { record := some record, further := false }
    | some r => { record := some r, further := true })

/-- The FAULT notice of a raise: one where it captures a record and FAULT NOTIFY of the class is on (R155). -/
def State.faultNotices (s : State) (code : FaultCode) (source : FaultSource) (bytes : Bytes) : List Frame :=
  let cls := (s.faults.rule code).cls
  if s.faults.captures code ∧ s.store.settings.notify cls = true then [faultNotice cls (s.firstFault code source bytes)] else []

/-- A raise of this code drops SERVING to IDLE: it is unmasked and its class is SEVERE (R138, R156). -/
abbrev State.faultDrops (s : State) (code : FaultCode) : Prop :=
  (s.faults.rule code).masked = false ∧ (s.faults.rule code).cls = .severe ∧ s.run.state = .serving

/-- What a raise leaves where its notice, if it has one, is admitted: the class judged, the notice queued, SERVING dropped to IDLE by a
SEVERE code, with its RUN STATE record (R138, R153 to R156). -/
def State.faulted (s : State) (code : FaultCode) (source : FaultSource) (bytes : Bytes) : State :=
  { s with
    faults := s.faults.judged code (s.firstFault code source bytes)
    line := { s.line with queue := s.line.queue ++ s.faultNotices code source bytes }
    run := { s.run with state := if s.faultDrops code then .idle else s.run.state }
    journal := if s.faultDrops code then s.journal.append s.run.clock { kind := .runState, flags := 0x26 } else s.journal }

/-- No FAULT notice of a raise of this code is dropped: the queue has room for one, or the raise queues none (R155, R171). -/
abbrev State.admits (s : State) (code : FaultCode) : Prop :=
  s.line.places < 56 ∨ ¬s.faults.captures code ∨ s.store.settings.notify (s.faults.rule code).cls = false

/-- A frame of this slot's terminal reaches the part and brings no presence change and no missed echo of its own (R91, R92, R95,
R112). -/
abbrev State.quietSlot (s : State) (i : Slot) : Prop :=
  s.hears i = true ∧ (s.slot i).presence ≠ .lost ∧ (s.slot i).echoDue = none

/-- The queue after an event that queued notices in order and a reply somewhere among them (R169; log 5). -/
def repliedAmong (queue notices : List Frame) (reply : Frame) (after : List Frame) : Prop :=
  ∃ k : Nat, after = queue ++ (notices.take k ++ reply :: notices.drop k)

/-- What a command or a setting write taken at `s` leaves, where its work, with its reply still owed, leaves `done`: the reply in its
place, alone or somewhere among the notices of that work (R169, R171; log 5). -/
def answeredFrom (s done t : State) (reply : Frame) : Prop :=
  let notices := done.line.queue.drop s.line.queue.length
  t = { done with
    line := { done.line with owed := done.line.owed - 1, queue := t.line.queue }
    freeCount := if notices = [] then done.freeCount else done.freeCount + 1 } ∧
  repliedAmong s.line.queue notices reply t.line.queue

/-- The settings copy a setting write puts in the store: into a damaged one, the first of two, otherwise into the one with the lower
write count, with a count one above that of the other copy when it is whole (R145; two equal counts are log 27). -/
def SettingStore.copyWritten (st : SettingStore) (content : Settings) : StoreUnit :=
  match st.first, st.second with
  | some a, some b => .settings (decide (a.count ≤ b.count)) { count := max a.count b.count + 1, settings := content }
  | some a, none => .settings false { count := a.count + 1, settings := content }
  | none, some b => .settings true { count := b.count + 1, settings := content }
  | none, none => .settings true { count := 1, settings := content }

/-- A request may begin with this unit: what R145 puts in the store, read from the state at its beginning. Which empty room an append
takes is free (log 6), and a damaged room counts as empty (log 7). -/
def State.mayWrite (s : State) : StoreRequest → StoreUnit → Prop
  | .setting _ n v _, unit => unit = s.store.copyWritten (s.store.settings.put n v)
  | .powerOnSettings, unit => unit = s.store.copyWritten s.store.settings
  | .append e next, unit =>
    (unit = .nothing ∧ ∀ i : Fin 64, ∃ f k, s.store.rooms[i] = .copy f k) ∨
      ∃ i : Fin 64, unit = .room i (.copy e next) ∧ ∀ f k, s.store.rooms[i] ≠ .copy f k
  | .free n, unit =>
    (unit = .nothing ∧ ∀ (i : Fin 64) f k, s.store.rooms[i] = .copy f k → f.number ≠ n) ∨
      ∃ (i : Fin 64) (f : ForwardEntry) (k : Nat), unit = .room i (.empty (some s.uplink.nextForward)) ∧
        s.store.rooms[i] = .copy f k ∧ f.number = n ∧
        ∀ (j : Fin 64) g l, j < i → s.store.rooms[j] = .copy g l → g.number ≠ n

/-- What the store does once a write has ended at `s`, with none in progress: the oldest waiting request begins; the oldest number of
the free backlog is handed to the list where none of its frees is there and the list has room, and begins where nothing waited (R85,
R145). That this is part of the same event is log 26. -/
def State.serves (s t : State) : Prop :=
  ∃ (waiting : List StoreRequest) (current : Option WriteInProgress) (free : Nat),
    t = { s with store := { s.store with waiting := waiting, current := current }, freeCount := free } ∧
    let begins (r : StoreRequest) : Prop :=
      (∃ unit, current = some { request := r, unit := unit } ∧ s.mayWrite r unit) ∧
      (free = s.freeCount ∨ (free = s.freeCount + 1 ∧ ∃ e next, r = .append e next))
    match s.store.waiting, s.uplink.backlog with
    | [], [] => waiting = [] ∧ current = none ∧ free = s.freeCount
    | [], n :: _ => waiting = [] ∧ begins (.free n)
    | r :: rest, [] => waiting = rest ∧ begins r
    | r :: rest, n :: _ =>
      waiting = (if (r :: rest).any StoreRequest.isFree = false ∧ rest.length < 8 then rest ++ [.free n] else rest) ∧ begins r

/-- What the store does at an event that leaves `s` and may have placed a request or grown the free backlog. With no write in progress it
serves its list; with one, the list alone can change: it takes the oldest number of the backlog where none of its frees is in the list
and the list has room (R85, R145). That this is part of the same event is log 26. -/
def State.hands (s t : State) : Prop :=
  match s.store.current with
  | none => s.serves t
  | some w => t = { s with store := { s.store with waiting := s.store.waiting ++ match s.uplink.backlog with
      | [] => []
      | n :: _ =>
        if w.request.isFree = false ∧ s.store.waiting.any StoreRequest.isFree = false ∧ s.store.waiting.length < 8 then [.free n]
        else [] } }

/-- A split plan passes the test of R12 against covers and a total due. -/
def SplitPlan.Valid (plan : SplitPlan) (covers d : Nat) : Prop :=
  match plan with
  | .whole => True
  | .even k => 1 ≤ k ∧ k ≤ 24
  | .bySeat groups =>
    1 ≤ groups.length ∧ groups.length ≤ covers ∧ (∀ g ∈ groups, g ≠ 0 ∧ ¬∃ b, g.getLsbD b = true ∧ covers ≤ b) ∧
      ∀ b, b < covers → (groups.filter fun g => g.getLsbD b).length = 1
  | .byAmount k fixed => 1 ≤ k ∧ k ≤ 24 ∧ (∀ v ∈ fixed, v ≤ 99999999) ∧ fixed.sum ≤ d

/-- The closed list with an entry at its tail, the oldest of 16 dropped (R46). -/
def closedWith (closed : List ClosedTender) (c : ClosedTender) : List ClosedTender := (closed ++ [c]).drop (closed.length + 1 - 16)

/-- Records appended in order at one event (R119). -/
def Journal.appendAll (j : Journal) (clock : Nat) (records : List JournalRecord) : Journal :=
  records.foldl (fun j r => j.append clock r) j

/-- The SENT entry of a forward number (R83). -/
def Uplink.sentEntry (u : Uplink) (number : Nat) : Option ForwardEntry :=
  u.queue.find? fun e => e.number == number && e.state == .sent

/-! ### Intake -/

/-- The tests of R49 for a PRESENT from a slot, in the order of its table: the reason of each, and whether the PRESENT passes it. -/
def intakeTable (s : State) (slot : Slot) (share : Nat) : List (OutcomeReason × Bool) :=
  let bound := (s.slot slot).boundCheck
  let check := bound.bind s.check
  let named := check.bind fun c => c.share share
  [(.notServing, s.run.state == .serving),
   (.hold, !s.run.hold),
   (.notAssigned, bound.isSome),
   (.slotBusy, s.tenders.pool.all fun t => t.slot != slot),
   (.barrier, check.all fun c => c.state != .barrier),
   (.noShare, named.isSome),
   (.nothingDue, named.all fun x => x.openAmt != 0),
   (.checkBusy, bound.all fun n => decide ((s.tenders.issueList n).length < Config.maxTendersPerCheck)),
   (.poolFull, decide (s.tenders.pool.length < Config.maxTenders))]

/-- The reason of the first test that fails; none when the PRESENT passes (R49). -/
def intakeRefusal (s : State) (slot : Slot) (share : Nat) : Option OutcomeReason :=
  ((intakeTable s slot share).find? fun x => !x.2).map Prod.fst

/-- The tests of R79 for a tender, in their order: the reason of each, and whether the tender passes it. -/
def offlineTable (s : State) (method : EntryMethod) (requested : Nat) : List (OutcomeReason × Bool) :=
  [(.keyed, method != .keyed),
   (.offlineLimit, decide (requested ≤ s.store.settings.offlineLimit)),
   (.exposure, decide (s.uplink.exposure + requested ≤ s.store.settings.exposureCap)),
   (.forwardFull,
     decide (s.uplink.queue.length + s.uplink.backlog.length < Config.forwardSize ∧ s.uplink.nextForward < Config.exhausted)),
   (.storeBusy, decide (s.store.waiting.length < Config.storeListSize))]

/-- The reason of the first test of R79 that fails; none when the tender is approved offline (R79). -/
def offlineReason (s : State) (method : EntryMethod) (requested : Nat) : Option OutcomeReason :=
  ((offlineTable s method requested).find? fun x => !x.2).map Prod.fst

/-! ### Departures and postings -/

/-- What an event leaves of a check: the check, its journal records and its notices, in order. -/
structure CheckEvents where
  check : Check
  records : List JournalRecord
  notices : List Frame
  deriving DecidableEq, Repr

/-- A check with no change parked and no tender in the pool, settled, with CHECK SETTLED where it becomes SETTLED (R8). -/
def Check.rested (c : Check) : Check × List Frame :=
  let state : CheckState :=
    if 0 < c.totals.d ∧ ∀ x ∈ c.shares, x.paid = x.due then .settled else if c.begun then .tendering else .opened
  ({ c with state := state },
   if state = .settled ∧ c.state ≠ .settled then [checkSettledNotice c.number c.totals.d (c.nextReceipt - 1)] else [])

/-- What the departure of a check's last tender leaves: the parked change applied or refused, with its record and notice, then the
check settled (R8, R9, R18, R19). The share field of the record is log 13. -/
def lastDeparture (st : Settings) (checks : List Check) (c : Check) : CheckEvents :=
  match c.parked with
  | none => ⟨c.rested.1, [], c.rested.2⟩
  | some p =>
    let bare := { c with parked := none }
    match applyChange st (linesFree (putCheck checks c)) bare p.change with
    | .error r => ⟨bare.rested.1, [], changeRefusedNotice c.number p.change.code p.tag r :: bare.rested.2⟩
    | .ok c' =>
      let record : JournalRecord :=
        { kind := .changeApplied, check := c.number, share := if c.begun then 25 else 0, amount := c'.totals.d
          receipt := match p.change with
            | .addItem .. => c'.lines.length
            | .voidItem line => line
            | .setSplit _ | .setCovers _ => 0
          flags := p.change.code, barrier := true }
      let line := match p.change with
        | .addItem .. => c'.lines.length
        | .voidItem _ | .setSplit _ | .setCovers _ => 0
      ⟨c'.rested.1, [record], changeAppliedNotice c.number p.change.code p.tag c'.totals.d line :: c'.rested.2⟩

/-- READY tenders of a check posted one after another: each pays its share, adds its tip, takes a receipt number and leaves, with its
TENDER POSTED record and notice and the SHARE PAID of a share it makes PAID (R7, R9, R65, R66). -/
def postRun (c : Check) : List Tender → CheckEvents
  | [] => ⟨c, [], []⟩
  | t :: rest =>
    let paid : Check :=
      { c with
        shares := c.shares.map fun x => if x.number = t.share then
          { x with paid := x.paid + t.ps, held := x.held - t.ps, tipsPaid := x.tipsPaid + t.pt } else x
        nextReceipt := c.nextReceipt + 1, begun := true, inPool := c.inPool - 1 }
    let x := (paid.share t.share).getD { number := t.share }
    let record : JournalRecord :=
      { kind := .tenderPosted, tender := t.id, check := t.check, share := t.share, slot := t.slot.val, amount := t.ps, tip := t.pt,
        receipt := c.nextReceipt, code := if t.deferred then t.forward else codeNumber t.code, deferred := t.deferred,
        clamped := t.clamped }
    let later := postRun paid rest
    ⟨later.check, record :: later.records,
      tenderPostedNotice t c.nextReceipt x.paid x.openAmt ::
        ((if x.paid = x.due then [sharePaidNotice c.number x.number x.paid x.tipsPaid] else []) ++ later.notices)⟩

/-- What follows at a check when the READY tenders `ready` stand first in its issue list, `rest` the tenders that then remain: they
post, and where none remains the check settles (R63, R64, R66). -/
def afterHead (st : Settings) (checks : List Check) (c : Check) (ready rest : List Tender) : CheckEvents :=
  let posted := postRun c ready
  match rest with
  | _ :: _ => posted
  | [] =>
    let last := lastDeparture st checks posted.check
    ⟨last.check, posted.records ++ last.records, posted.notices ++ last.notices⟩

/-- The slots after tenders have posted: no tender in flight, the shift totals grown and held at their top (R63, R65, R181). -/
def slotsPosted (slots : Vector SlotEntry 64) (tenders : List Tender) : Vector SlotEntry 64 :=
  tenders.foldl
    (fun v t => v.set t.slot { v[t.slot] with
      inFlight := none, postedCount := min 1099511627775 (v[t.slot].postedCount + 1)
      shareTotal := min 1099511627775 (v[t.slot].shareTotal + t.ps), tipTotal := min 1099511627775 (v[t.slot].tipTotal + t.pt) })
    slots

/-- The closed list after tenders have posted (R46, R65). -/
def closedPosted (clock : Nat) (closed : List ClosedTender) (tenders : List Tender) : List ClosedTender :=
  tenders.foldl (fun l t => closedWith l ⟨t.id, t.check, t.share, t.slot, .posted, clock⟩) closed

/-- The issue list of a tender's check, split at it: the READY tenders that post when it leaves the head, and the others, ids all
different (R44, R64). A tender behind the head lets nothing post. -/
abbrev TenderPool.Splits (p : TenderPool) (t : Tender) (before ready rest : List Tender) : Prop :=
  p.issueList t.check = before ++ t :: (ready ++ rest) ∧ (∀ u ∈ ready, u.state = .ready) ∧
  (before = [] → ∀ u ∈ rest.head?, u.state ≠ .ready) ∧ (before = [] ∨ ready = []) ∧ ready.length < 8 ∧
  ((before ++ t :: (ready ++ rest)).map Tender.id).Nodup

/-- The pool without some tenders. -/
def TenderPool.without (p : TenderPool) (gone : List Tender) : List Tender := p.pool.filter fun v => gone.all fun u => v.id != u.id

/-! ### Frames arriving byte by byte -/

/-- The state after the framer has taken a string of bytes, one SERVER_BYTE each (R166). -/
def feedBytes (bytes : Bytes) (s : State) : State :=
  bytes.foldl (fun s b => match execServerByte b s with | .next t => t | .fault _ => s | .refused _ => s) s

end Sys2Proof.Machine
end

