-- ==== Sys2Proof/Certificates/Slice0/Obligations.lean ====
section
/-! DEFINITION. The statements for the provers. Each cites the rules it formalises in OBLIGATIONS.json. -/

open Sys2Proof Sys2Proof.Machine

/-! ### The machine -/

/-- A step takes the command at the front of the queue and runs it on the state with the queue's rest; an empty queue idles. The queue
is the model's own (log 2, log 34). -/
def Obligations.StepTakesFront : Prop :=
  (∀ (c : Instr) (rest : List Instr) (s : State), step { s with pending := c :: rest } = exec c { s with pending := rest }) ∧
  (∀ s : State, s.pending = [] → step s = .next s)

/-- What power-on leaves (R1, R43, R73, R93, R115, R134, R140, R141, R152, R166), read off the reset state, which meets every invariant
below. That the store then holds the defaults is the model's choice (log 1). -/
def Obligations.ResetStateSound : Prop :=
  State.reset.run.state = .halted ∧ State.reset.run.hold = false ∧ State.reset.run.clock = 0 ∧ State.reset.checks = [] ∧
  State.reset.tenders.pool = [] ∧ State.reset.tenders.closed = [] ∧ State.reset.tenders.lastId = 0 ∧
  State.reset.uplink.state = .down ∧ State.reset.uplink.setBy = .reset ∧ State.reset.uplink.count = 0 ∧
  (∀ i : Slot, State.reset.slot i = SlotEntry.start) ∧ State.reset.radio.fill = FillRecord.start ∧
  State.reset.journal.next = 0 ∧ State.reset.journal.floor = 0 ∧ State.reset.journal.cells = [] ∧
  State.reset.journal.snapshot = none ∧ State.reset.journal.drive = .idle ∧ State.reset.journal.testing = true ∧
  (∀ c : FaultCode, (State.reset.faults.rule c).masked = false) ∧
  (∀ c : FaultClass, State.reset.faults.classState c = { record := none, further := false }) ∧ State.reset.alert = false ∧
  State.reset.line.framer = .hunt ∧ State.reset.line.queue = [] ∧ State.reset.line.held = none ∧
  State.reset.journal.Formed ∧ State.reset.faults.Formed ∧ State.reset.HaltedEmpty ∧ State.reset.ListsFormed

/-- Every step keeps the journal's storage in its canonical form, the floor at most the next number, the next number at most one past
the last (R115, R116, R119). -/
def Obligations.StepKeepsJournalFormed : Prop :=
  ∀ s t : State, s.journal.Formed → step s = .next t → t.journal.Formed

/-- Every step keeps the law of R153: a further-fault flag is set only while its class holds a record. -/
def Obligations.StepKeepsFaultLaw : Prop :=
  ∀ s t : State, s.faults.Formed → step s = .next t → t.faults.Formed

/-- Every step keeps the law of R134: while the run state is HALTED, the Check Table and the Tender Pool are empty. -/
def Obligations.StepKeepsHaltedEmpty : Prop :=
  ∀ s t : State, s.HaltedEmpty → step s = .next t → t.HaltedEmpty

/-- Every step keeps the capacities of the store write list and the outbound queue, and one reply owed for each setting write of a
command that has not ended (R144, R171, R172, R173). -/
def Obligations.StepKeepsListsFormed : Prop :=
  ∀ s t : State, s.ListsFormed → step s = .next t → t.ListsFormed

/-! ### Frames -/

/-- A command's frame is read back: its CRC matches, and its kind, tag and body spell the command (R165, R174 to R176); a terminal
message whose fields are in their ranges is read back from its radio frame (R92, R178); that a WAKE may carry any 8 bytes is the
model's reading (log 56). -/
def Obligations.FramesReadBack : Prop :=
  (∀ (c : HostCommand) (tag : U8), c.wf = true →
    frameCrcGood (c.frame tag) = true ∧ byteAt (c.frame tag) 3 = c.kind ∧ byteAt (c.frame tag) 4 = tag ∧
      knownKind c.kind = true ∧ frameBody (c.frame tag) = c.body ∧ readCommand c.kind c.body = some c) ∧
  (∀ m : UplinkMessage, m.good = true → goodUplink m.frame = some m)

/-- The bytes of a command's frame, taken one by one by a framer in HUNT, do what the command's row does (R166, R167, R168, R172).
That a row stands for a whole good frame is the model's reading (log 4). -/
def Obligations.FrameBytesActAsRow : Prop :=
  ∀ (c : HostCommand) (tag : U8) (s : State), c.wf = true → c.body.length ≤ 1024 → s.live = true → s.line.framer = .hunt →
    s.line.rx = [] → s.line.gapRunning = false → feedBytes (c.frame tag) s = s.hostRow tag c

/-! ### The Split Engine -/

/-- Even division is allocation with every weight 1: each part the floor, one more for the first x mod k; and it divides a line over
its seats, in increasing seat number (R31, R34). -/
def Obligations.EvenDivisionIsAllocation : Prop :=
  (∀ x k : Nat, 0 < k → evenDivision x k = allocate x (List.replicate k 1)) ∧
  (∀ x k i : Nat, i < k → (evenDivision x k)[i]? = some (x / k + if i < x % k then 1 else 0)) ∧
  (∀ x k i : Nat, x < k → i < k → (evenDivision x k)[i]? = some (if i < x then 1 else 0)) ∧
  (∀ (l : LineEntry) (covers : Nat), (l.seatsOf covers).Pairwise (· < ·)) ∧
  (∀ (l : LineEntry) (covers seat : Nat), seat ∈ l.seatsOf covers ↔
    if l.seats = 0 then 1 ≤ seat ∧ seat ≤ covers else 1 ≤ seat ∧ l.seats.getLsbD (seat - 1) = true) ∧
  (∀ (l : LineEntry) (covers i seat : Nat), (l.seatsOf covers)[i]? = some seat →
    (evenDivision l.amount (l.seatsOf covers).length)[i]? = some (seatPart l covers seat))

/-- Largest-remainder allocation. Over weights of sum 0 every part is 0. Else each part is its base or one more, the leftover, less
than the number of parts, is what the bases leave of x, the remainders sum to leftover × A, the parts sum to x, a part of weight 0
gets 0, and the leftover units go to the greatest remainders, ties to the lower number: a part served where another is not has the
greater remainder, or an equal one and the lower number. In every use the engine makes, of a tax or of the service over the groups of
BY SEAT, x is 0 where the weights sum to 0, so the parts always sum to x (R30). -/
def Obligations.AllocationSumsExactly : Prop :=
  (∀ (x : Nat) (w : List Nat),
    let leftover := x - (w.map fun a => x * a / w.sum).sum
    (allocate x w).length = w.length ∧ (w.sum = 0 → ∀ p ∈ allocate x w, p = 0) ∧
    (0 < w.sum → (allocate x w).sum = x ∧ (w.map fun a => x * a / w.sum).sum ≤ x ∧ leftover < w.length ∧
      (w.map fun a => x * a % w.sum).sum = leftover * w.sum ∧
      (∀ i a p : Nat, w[i]? = some a → (allocate x w)[i]? = some p →
        (p = x * a / w.sum ∨ p = x * a / w.sum + 1) ∧ (a = 0 → p = 0)) ∧
      ∀ i j a b : Nat, w[i]? = some a → w[j]? = some b → (allocate x w)[i]? = some (x * a / w.sum + 1) →
        (allocate x w)[j]? = some (x * b / w.sum) →
        x * b % w.sum < x * a % w.sum ∨ (x * b % w.sum = x * a % w.sum ∧ i < j))) ∧
  (∀ (st : Settings) (mode : ServiceMode) (lines : List LineEntry) (covers : Nat) (groups : List U32),
    1 ≤ covers → (∀ l ∈ lines, ∀ b, l.seats.getLsbD b = true → b < covers) →
    (∀ b, b < covers → (groups.filter fun g => g.getLsbD b).length = 1) →
    let t := computeTotals st mode covers lines
    let sub (n : Nat) (g : U32) : Nat :=
      ((seatList g).map fun seat =>
        ((lines.filter fun l => !l.voided && l.taxClass == n).map fun l => seatPart l covers seat).sum).sum
    let subs (g : U32) : Nat := sub 0 g + sub 1 g + sub 2 g + sub 3 g
    ∀ use ∈ [(t.t0, groups.map (sub 0)), (t.t1, groups.map (sub 1)), (t.t2, groups.map (sub 2)), (t.t3, groups.map (sub 3)),
        (t.sc, groups.map subs)],
      (use.2.sum = 0 → use.1 = 0) ∧ (allocate use.1 use.2).sum = use.1)

/-- The dues of the shares built sum to D under every split method, under BY SEAT for totals computed from the lines and groups in which
each seat stands once; nothing is paid or held. BY SEAT a due is the share's class subtotals with its parts of each tax and of the
service charge. The tip base is the PRE TAX figure of the method, or the due under POST TAX (R4, R5, R32 to R39). -/
def Obligations.DuesSumToTotal : Prop :=
  ∀ (st : Settings) (plan : SplitPlan) (mode : ServiceMode) (lines : List LineEntry) (covers : Nat) (t : Totals),
    let shares := buildShares st plan lines covers t
    let seated (groups : List U32) : Prop :=
      1 ≤ covers ∧ t = computeTotals st mode covers lines ∧
      (∀ l ∈ lines, ∀ b, l.seats.getLsbD b = true → b < covers) ∧
      ∀ b, b < covers → (groups.filter fun g => g.getLsbD b).length = 1
    let sub (n : Nat) (g : U32) : Nat :=
      ((seatList g).map fun seat =>
        ((lines.filter fun l => !l.voided && l.taxClass == n).map fun l => seatPart l covers seat).sum).sum
    let subs (g : U32) : Nat := sub 0 g + sub 1 g + sub 2 g + sub 3 g
    let tip (preTax due : Nat) : Nat := match st.tipBase with
      | .preTax => preTax
      | .postTax => due
    ((plan = .whole ∨ (∃ k, plan = .even k ∧ 1 ≤ k) ∨ (∃ groups, plan = .bySeat groups ∧ seated groups) ∨
        (∃ k fixed, plan = .byAmount k fixed ∧ fixed.length + 1 = k ∧ fixed.sum ≤ t.d)) →
      (shares.map Share.due).sum = t.d) ∧
    (∀ x ∈ shares, x.paid = 0 ∧ x.held = 0 ∧ x.openAmt = x.due) ∧
    (plan = .whole → shares.map Share.due = [t.d] ∧ shares.map Share.tipBase = [tip t.s t.d]) ∧
    (∀ k i, plan = .even k → i < k →
      (shares.map Share.due)[i]? = (evenDivision t.d k)[i]? ∧
      (shares.map Share.tipBase)[i]? = some (tip (t.s / k + if i < t.s % k then 1 else 0) (t.d / k + if i < t.d % k then 1 else 0))) ∧
    (∀ groups i g, plan = .bySeat groups → groups[i]? = some g →
      let due := subs g + (allocate t.t0 (groups.map (sub 0))).getD i 0 + (allocate t.t1 (groups.map (sub 1))).getD i 0 +
        (allocate t.t2 (groups.map (sub 2))).getD i 0 + (allocate t.t3 (groups.map (sub 3))).getD i 0 +
        (allocate t.sc (groups.map subs)).getD i 0
      shares[i]? = some { number := i + 1, group := g, due := due, openAmt := due, tipBase := tip (subs g) due }) ∧
    (∀ k fixed i, plan = .byAmount k fixed → i < k →
      let due := if i + 1 < k then fixed.getD i 0 else t.d - fixed.sum
      (shares.map Share.due)[i]? = some due ∧
      (shares.map Share.tipBase)[i]? = some (tip (if t.d = 0 then 0 else due * t.s / t.d) due))

/-- The totals of a run and the tip of a PRESENT (R26 to R29, R41, R42). -/
def Obligations.TotalsAndTips : Prop :=
  (∀ (st : Settings) (mode : ServiceMode) (covers : Nat) (lines : List LineEntry),
    let t := computeTotals st mode covers lines
    let sub (n : Nat) : Nat := ((lines.filter fun l => !l.voided && l.taxClass == n).map fun l => l.price * l.quantity).sum
    (t.s0, t.s1, t.s2, t.s3) = (sub 0, sub 1, sub 2, sub 3) ∧ t.s = t.s0 + t.s1 + t.s2 + t.s3 ∧
    t.t0 = (t.s0 * st.taxRate0 + 5000) / 10000 ∧ t.t1 = (t.s1 * st.taxRate1 + 5000) / 10000 ∧
    t.t2 = (t.s2 * st.taxRate2 + 5000) / 10000 ∧ t.t3 = (t.s3 * st.taxRate3 + 5000) / 10000 ∧
    (mode = .on ∨ (mode = .auto ∧ st.serviceParty ≠ 0 ∧ st.serviceParty ≤ covers) →
      t.sc = (t.s * st.serviceRate + 5000) / 10000) ∧
    (mode = .off ∨ (mode = .auto ∧ (st.serviceParty = 0 ∨ covers < st.serviceParty)) → t.sc = 0) ∧
    t.d = t.s + t.t0 + t.t1 + t.t2 + t.t3 + t.sc) ∧
  (∀ cap tipBase part due kind value : Nat,
    let base := tipBase * part / due
    let before := if kind = 1 then value else if kind = 2 then (base * value + 50) / 100 else 0
    settleTip cap tipBase part due kind value = (min before (base * cap / 100), decide (base * cap / 100 < before)))

/-- A hold moves its amount from open to held at the named share and counts a tender; a release moves it back; a post moves it from held
to paid, adds the tip, takes a receipt number and begins payment; nothing else of the check changes, and each keeps due = paid + held +
open (R5 to R7). -/
def Obligations.HoldReleasePostBalance : Prop :=
  ∀ (c : Check) (n p pt : Nat),
    let named (change : Share → Share) : List Share := c.shares.map fun x => if x.number = n then change x else x
    c.hold n p = { c with
      shares := named fun x => { x with held := x.held + p, openAmt := x.openAmt - p }, inPool := c.inPool + 1 } ∧
    c.release n p = { c with shares := named fun x => { x with held := x.held - p, openAmt := x.openAmt + p } } ∧
    c.post n p pt = { c with
      shares := named fun x => { x with paid := x.paid + p, held := x.held - p, tipsPaid := x.tipsPaid + pt }
      nextReceipt := c.nextReceipt + 1, begun := true } ∧
    (c.Balanced →
      ((∀ x ∈ c.shares, x.number = n → p ≤ x.openAmt) → (c.hold n p).Balanced) ∧
      ((∀ x ∈ c.shares, x.number = n → p ≤ x.held) → (c.release n p).Balanced ∧ (c.post n p pt).Balanced))

/-! ### The Check Table -/

/-- OPEN CHECK: a parameter outside its fixed range, or a plan outside the ranges that need no check, is refused RANGE; then a number in
use IN USE, a plan that fails R12 for the covers and D = 0 RANGE, and a table with no FREE record TABLE FULL, each with nothing but the
queue changed. One that passes takes a FREE record: empty, its plan's shares built, OPEN; CHECK OPENED; ACCEPTED with the number of
shares (R10, R11, R12). Which ranges of a plan are tested before IN USE is the model's reading (log 12). -/
def Obligations.OpenCheckOpens : Prop :=
  ∀ (s : State) (tag : U8) (check table : U16) (covers mode : U8) (plan : Option PlanBytes),
    s.takes tag → s.run.state ≠ .halted → plan.all PlanBytes.wf = true →
    let i := Instr.openCheck tag check table covers mode plan
    let refused (r : Reason) : Prop := exec i s = .next (s.replied 0x01 tag (.refused r))
    let outside := check = 0 ∨ table = 0 ∨ 999 < table.toNat ∨ covers = 0 ∨ 24 < covers.toNat ∨ 2 < mode.toNat
    let malformed := ∃ b : PlanBytes, plan = some b ∧
      (3 < b.form.toNat ∨ (b.form ≠ 0 ∧ (b.k = 0 ∨ 24 < b.k.toNat)) ∨
        (b.form = 2 ∧ ∃ g ∈ b.items, g = 0 ∨ ∃ seat, g.getLsbD seat = true ∧ 24 ≤ seat) ∨
        (b.form = 3 ∧ ∃ v ∈ b.items, 99999999 < v.toNat))
    (outside ∨ malformed → refused .range) ∧ (¬malformed → ∃ p, planOfOption plan = some p) ∧
    (∀ p : SplitPlan, ¬outside → planOfOption plan = some p →
      ((s.check check.toNat).isSome = true → refused .inUse) ∧
      (s.check check.toNat = none → ¬p.Valid covers.toNat 0 → refused .range) ∧
      (s.check check.toNat = none → p.Valid covers.toNat 0 → 128 ≤ s.checks.length → refused .tableFull) ∧
      (∀ m : ServiceMode, ServiceMode.ofCode mode = some m → s.check check.toNat = none → p.Valid covers.toNat 0 →
        s.checks.length < 128 → exec i s = .next
          ((State.appendRecord
              { s with checks := s.checks ++ [{
                  number := check.toNat, table := table.toNat, covers := covers.toNat, mode := m, state := .opened, lines := [],
                  plan := p, totals := {}, shares := buildShares s.store.settings p [] covers.toNat {}, begun := false,
                  inPool := 0, parked := none, nextReceipt := 1 }] }
              { kind := .checkOpened, check := check.toNat, share := covers.toNat, amount := table.toNat, flags := m.code }).replied
            0x01 tag (.accepted (le 4 (buildShares s.store.settings p [] covers.toNat {}).length)))))

/-- ADD ITEM, VOID ITEM, SET SPLIT and SET COVERS. A parameter outside its fixed range, check 0 among them, is refused RANGE, a check not
in use NO CHECK, a check with a change parked BUSY, and a change that its own tests or the trial refuse is answered with that reason:
the check is kept as it was, and nothing but the queue changes. One that passes, with no tender of the check in the pool, is applied at
once: the changed record, settled; its CHANGE APPLIED record; ACCEPTED with the change's data, and the CHECK SETTLED that settling it
gives, in an order that is free (log 5); no other check and nothing else changes. With tenders of the check in the pool it is parked:
BARRIER, PARKED, and nothing else changes (R10, R17, R18, R20, R22, R23, R24). The share field of the record under payment lock (log
13) and which ranges of a plan are tested before the check is looked up (log 12) are the model's readings. -/
def Obligations.ChangesTaken : Prop :=
  (∀ (i : Instr) (kind tag : U8) (s : State), checkCommand i = some (kind, tag) → 2 ≤ kind.toNat → kind.toNat ≤ 5 → s.takes tag →
    s.run.state ≠ .halted →
    let refused (r : Reason) : Prop := exec i s = .next (s.replied kind tag (.refused r))
    (changeAsked i = none → refused .range) ∧
    ∀ (n : U16) (ch : Change), changeAsked i = some (kind, tag, n, ch) →
      (s.check n.toNat = none → refused .noCheck) ∧
      ∀ c : Check, s.check n.toNat = some c →
        (c.parked.isSome = true → refused .busy) ∧
        ∀ r : Reason, c.parked = none → applyChange s.store.settings (linesFree s.checks) c ch = .error r → refused r) ∧
  (∀ (i : Instr) (kind tag : U8) (n : U16) (ch : Change) (s : State) (c c' : Check),
    changeAsked i = some (kind, tag, n, ch) → s.takes tag → s.line.places < 50 → s.run.state ≠ .halted →
    s.check n.toNat = some c → c.parked = none → c.inPool = 0 →
    applyChange s.store.settings (linesFree s.checks) c ch = .ok c' →
    ∃ t : State, exec i s = .next t ∧
      t = { s with
        checks := putCheck s.checks c'.rested.1
        journal := s.journal.append s.run.clock (changeRecord c' ch false)
        line := { s.line with queue := t.line.queue }
        freeCount := if c'.rested.2 = [] then s.freeCount else s.freeCount + 1 } ∧
      repliedAmong s.line.queue c'.rested.2 ((Reply.accepted (changeData c' ch)).frame kind tag) t.line.queue ∧
      t.check n.toNat = some c'.rested.1 ∧ ∀ m, m ≠ n.toNat → t.check m = s.check m) ∧
  (∀ (i : Instr) (kind tag : U8) (n : U16) (ch : Change) (s : State) (c c' : Check),
    changeAsked i = some (kind, tag, n, ch) → s.takes tag → s.run.state ≠ .halted → s.check n.toNat = some c → c.parked = none →
    0 < c.inPool → applyChange s.store.settings (linesFree s.checks) c ch = .ok c' →
    exec i s = .next
      (({ s with checks := putCheck s.checks { c with parked := some { change := ch, tag := tag }, state := .barrier } }).replied
        kind tag .parked))

/-- The tests and the trial of each check change, in order, and what it then gives (R12, R18, R20 to R24, R25, R40). The trial computes
the totals anew and refuses one above 99,999,999, or below the plan's fixed amounts. Before payment the shares are built anew; under
payment lock ADD ITEM gives the increase to share 25, created where it does not exist, and the others are refused PAID LOCK. -/
def Obligations.ChangesTested : Prop :=
  ∀ (st : Settings) (free : Nat) (c : Check),
    let above (v : U32) (n : Nat) : Prop := ∃ b, v.getLsbD b = true ∧ n ≤ b
    let trial (lines : List LineEntry) (covers : Nat) (plan : SplitPlan) (good : Totals → Check) (r : Except Reason Check) : Prop :=
      let t := computeTotals st c.mode covers lines
      let short : Prop := ∃ k fixed, plan = .byAmount k fixed ∧ t.d < fixed.sum
      (99999999 < t.d → r = .error .totalLimit) ∧ (t.d ≤ 99999999 → short → r = .error .range) ∧
      (t.d ≤ 99999999 → ¬short → r = .ok (good t))
    let rebuilt (lines : List LineEntry) (covers : Nat) (plan : SplitPlan) : Except Reason Check → Prop :=
      trial lines covers plan fun t =>
        { c with lines := lines, covers := covers, plan := plan, totals := t, shares := buildShares st plan lines covers t }
    -- ADD ITEM
    (∀ (price quantity taxClass : Nat) (seats : U32),
      let r := applyChange st free c (.addItem price quantity taxClass seats)
      let lines := c.lines ++ [{ price := price, quantity := quantity, taxClass := taxClass, seats := seats, voided := false }]
      let locked (t : Totals) : Check :=
        let grown := t.d - c.totals.d
        let base := match st.tipBase with
          | .preTax => price * quantity
          | .postTax => grown
        { c with
          lines := lines, totals := t
          shares := if ∃ x ∈ c.shares, x.number = 25 then
              c.shares.map fun x => if x.number = 25 then
                { x with due := x.due + grown, openAmt := x.openAmt + grown, tipBase := x.tipBase + base } else x
            else c.shares ++ [{ number := 25, due := grown, openAmt := grown, tipBase := base }] }
      (above seats c.covers → r = .error .range) ∧
      (¬above seats c.covers → (96 ≤ c.lines.length ∨ free = 0) → r = .error .linesFull) ∧
      (¬above seats c.covers → c.lines.length < 96 → 0 < free →
        (c.begun = false → rebuilt lines c.covers c.plan r) ∧ (c.begun = true → trial lines c.covers c.plan locked r))) ∧
    -- VOID ITEM
    (∀ line : Nat,
      let r := applyChange st free c (.voidItem line)
      (c.begun = true → r = .error .paidLock) ∧
      (c.begun = false → (line = 0 ∨ c.lines.length < line) → r = .error .range) ∧
      (∀ before l after, c.begun = false → c.lines = before ++ l :: after → line = before.length + 1 →
        (l.voided = true → r = .error .range) ∧
        (l.voided = false → rebuilt (before ++ { l with voided := true } :: after) c.covers c.plan r))) ∧
    -- SET SPLIT
    (∀ plan : SplitPlan,
      let r := applyChange st free c (.setSplit plan)
      let valid : Prop := plan.Valid c.covers c.totals.d
      (c.begun = true → r = .error .paidLock) ∧ (c.begun = false → ¬valid → r = .error .range) ∧
      (c.begun = false → valid → rebuilt c.lines c.covers plan r)) ∧
    -- SET COVERS
    (∀ covers : Nat,
      let r := applyChange st free c (.setCovers covers)
      let beyond : Prop := (∃ l ∈ c.lines, above l.seats covers) ∨ ∃ groups, c.plan = .bySeat groups ∧ ∃ g ∈ groups, above g covers
      (c.begun = true → r = .error .paidLock) ∧ (c.begun = false → beyond → r = .error .range) ∧
      (c.begun = false → ¬beyond →
        ((∀ groups, c.plan ≠ .bySeat groups) → rebuilt c.lines covers c.plan r) ∧
        ∀ init last joined, c.plan = .bySeat (init ++ [last]) →
          (∀ b, b < 32 → joined.getLsbD b = (last.getLsbD b || decide (c.covers ≤ b ∧ b < covers))) →
          rebuilt c.lines covers (.bySeat (init ++ [joined])) r))

/-- CLOSE CHECK and VOID CHECK: check 0 is refused RANGE, a check not in use NO CHECK, one with tenders in the pool BUSY; then CLOSE CHECK
of a check neither SETTLED nor OPEN with D = 0 STATE, and VOID CHECK once payment has begun PAID LOCK; a refusal changes nothing but the
queue. Otherwise they free the record: its number is in use no more. A slot bound to it goes IDLE, one in PROBE will return to IDLE, and
either keeps its outcome and gets the IDLE display; a running fill toward it has its target freed; the record is written; nothing else
changes (R10, R14, R15, R16, R109). -/
def Obligations.CloseAndVoidFree : Prop :=
  ∀ (s : State) (tag : U8) (n : U16), s.takes tag → s.run.state ≠ .halted →
    let closeRefused (r : Reason) : Prop := exec (.closeCheck tag n) s = .next (s.replied 0x07 tag (.refused r))
    let voidRefused (r : Reason) : Prop := exec (.voidCheck tag n) s = .next (s.replied 0x08 tag (.refused r))
    (n = 0 → closeRefused .range ∧ voidRefused .range) ∧
    (n ≠ 0 → s.check n.toNat = none → closeRefused .noCheck ∧ voidRefused .noCheck) ∧
    (∀ c : Check, n ≠ 0 → s.check n.toNat = some c →
      let closes : Prop := c.state = .settled ∨ (c.state = .opened ∧ c.totals.d = 0)
      let freed (t : State) : Prop :=
        t.checks = s.checks.filter (fun x => x.number != n.toNat) ∧ t.check n.toNat = none ∧
        (∀ i : Slot,
          let e := s.slot i
          let shown : SlotEntry :=
            { e with display := some (e.displayNumber, .text textNotAssigned 0 0), nextItem := itemAfter e.displayNumber }
          (e.mode = .routed (.bound n.toNat) → t.slot i = { shown with mode := .routed .idle }) ∧
          (e.mode = .probe (.bound n.toNat) → t.slot i = { shown with mode := .probe .idle }) ∧
          (e.mode ≠ .routed (.bound n.toNat) → e.mode ≠ .probe (.bound n.toNat) → t.slot i = e)) ∧
        t.radio.fill.targetFreed =
          (s.radio.fill.targetFreed || (s.radio.fill.running && s.radio.fill.mode == .bound n.toNat)) ∧
        t.radio = { s.radio with
          slots := t.radio.slots, fill := { s.radio.fill with targetFreed := t.radio.fill.targetFreed } }
      (0 < c.inPool → closeRefused .busy ∧ voidRefused .busy) ∧
      (c.inPool = 0 → ¬closes → closeRefused .state) ∧
      (c.inPool = 0 → c.begun = true → voidRefused .paidLock) ∧
      (c.inPool = 0 → closes →
        ∃ t : State, exec (.closeCheck tag n) s = .next t ∧ freed t ∧
          t.journal = s.journal.append s.run.clock
            { kind := .checkClosed, check := n.toNat, amount := c.totals.d, receipt := c.nextReceipt - 1 } ∧
          t.line = (s.replied 0x07 tag (.accepted [])).line ∧
          t = { s with checks := t.checks, radio := t.radio, journal := t.journal, line := t.line }) ∧
      (c.inPool = 0 → c.begun = false →
        ∃ t : State, exec (.voidCheck tag n) s = .next t ∧ freed t ∧
          t.journal = s.journal.append s.run.clock { kind := .checkVoided, check := n.toNat, amount := c.totals.d } ∧
          t.line = (s.replied 0x08 tag (.accepted [])).line ∧
          t = { s with checks := t.checks, radio := t.radio, journal := t.journal, line := t.line }))

/-- While the run state is HALTED, every command of chapter 1 is refused STATE and changes nothing else (R1, R10). -/
def Obligations.HaltedRefusesCheckCommands : Prop :=
  ∀ (i : Instr) (kind tag : U8) (s : State), checkCommand i = some (kind, tag) → s.takes tag → s.run.state = .halted →
    exec i s = .next (s.replied kind tag (.refused .state))

/-! ### Queries -/

/-- RUN QUERY, SETTING READ and FAULT READ report what they name and change nothing but the queue (R139, R146, R160, R175, R177,
R180). The codes that are free (log 10), the number of a setting in 1 byte (log 11), the form of SETTING READ (log 41), the code of
the last reset (log 52) and the level of ALERT as 1 or 0 (log 53) are the model's. -/
def Obligations.StatusQueriesReport : Prop :=
  ∀ (s : State) (tag : U8), s.takes tag →
    exec (.runQuery tag) s = .next (s.replied 0x27 tag (.accepted
      ([s.run.state.code] ++ flag s.run.hold ++ le 4 s.run.clock ++ flag s.run.clockSet ++ [s.journal.testCode] ++
        [requestCode s.store.current] ++ le 4 s.store.waiting.length ++
        le 4 (s.store.waiting.filter StoreRequest.isSetting).length ++ [(s.run.lastReset.map ResetCause.code).getD 0]))) ∧
    (∀ n : U8, 1 ≤ n.toNat → n.toNat ≤ 26 →
      exec (.settingRead tag n) s = .next (s.replied 0x28 tag (.accepted (le 4 (s.store.settings.get n.toNat) ++ [0])))) ∧
    (∀ n : U8, 26 < n.toNat → exec (.settingRead tag n) s = .next (s.replied 0x28 tag (.refused .range))) ∧
    exec (.settingRead tag 0) s = .next (s.replied 0x28 tag (.accepted
      ([0, 0, 0, 0, 26] ++ ((List.range 26).map fun i => le 1 (i + 1) ++ le 4 (s.store.settings.get (i + 1))).flatten))) ∧
    exec (.faultRead tag) s = .next (s.replied 0x2C tag (.accepted
      (s.faults.note.bytes .note ++ flag s.store.settings.notifyNote ++ s.faults.fault.bytes .fault ++
        flag s.store.settings.notifyFault ++ s.faults.severe.bytes .severe ++ flag s.store.settings.notifySevere ++
        (FaultCode.all.map fun c => flag (s.faults.rule c).masked ++ [(s.faults.rule c).cls.code]).flatten ++
        flag (s.faults.fault.record.isSome || s.faults.severe.record.isSome) ++ flag s.store.settings.injectEnable)))

/-- TENDER QUERY, FORWARD QUERY, SLOT QUERY, SHIFT QUERY and CHECK QUERY report what they name, or answer the refusal of their rule,
and change nothing but the queue (R10, R13, R47, R78, R114, R182). The codes of the fill state are free (log 10); the widths, the
place of the seconds left, the first line of a SUMMARY, the item kinds, the bits of the pattern state, the order of CHECK QUERY's
refusals and the order of the fields in the one form of TENDER QUERY and of CHECK QUERY, those of the cases that do not hold 0, spaces
or empty (R177), are the model's readings (log 11, log 25, log 37, log 38, log 48, log 54, log 61). -/
def Obligations.ListQueriesReport : Prop :=
  ∀ (s : State) (tag : U8), s.takes tag →
    let zeros (k : Nat) : Bytes := List.replicate k 0
    let noTender : Bytes := zeros 51 ++ List.replicate 6 0x20 ++ zeros 17
    (∀ (n : U16) (t : Tender), n ≠ 0 → s.tenders.find n.toNat = some t →
      let waits (value : Nat) : Bytes := le 4 (if t.state = .awaiting then value else 0)
      exec (.tenderQuery tag n) s = .next (s.replied 0x11 tag (.accepted
        (zeros 4 ++ le 2 t.id ++ le 2 t.check ++ le 1 t.share ++ [slotByte t.slot, t.tag, t.method.code] ++
          padded 16 0 t.token ++ le 4 t.part ++ le 4 t.tip ++ flag t.clamped ++ le 4 (t.part + t.tip) ++ le 4 t.hold ++ [t.state.code] ++
          flag t.cancelRequested ++ le 4 t.ps ++ le 4 t.pt ++ padded 6 0x20 t.code ++ flag t.deferred ++ le 4 t.forward ++
          waits (min t.expiry 4294967295) ++ le 4 t.issuedAt ++ waits (t.expiry - s.run.clock) ++
          zeros 11)))) ∧
    (∀ (n : U16) (c : ClosedTender), n ≠ 0 → s.tenders.find n.toNat = none → s.tenders.findClosed n.toNat = some c →
      exec (.tenderQuery tag n) s = .next (s.replied 0x11 tag (.accepted (zeros 4 ++ noTender ++ c.fields)))) ∧
    (∀ n : U16, n ≠ 0 → s.tenders.find n.toNat = none → s.tenders.findClosed n.toNat = none →
      exec (.tenderQuery tag n) s = .next (s.replied 0x11 tag (.refused .noTender))) ∧
    exec (.tenderQuery tag 0) s = .next (s.replied 0x11 tag (.accepted
      (le 1 s.tenders.byEntry.length ++ (s.tenders.byEntry.map s.tenders.listed).flatten ++ le 1 s.tenders.closed.length ++
        (s.tenders.closed.map ClosedTender.listed).flatten ++ le 2 s.tenders.lastId ++ noTender ++ zeros 11))) ∧
    (∀ p : U32, 1 ≤ p.toNat → p.toNat ≤ 64 →
      exec (.forwardQuery tag p) s = .next (s.replied 0x17 tag (.accepted
        ([s.uplink.state.code, s.uplink.setBy.code] ++ le 4 s.uplink.count ++ le 4 s.uplink.exposure ++
          wireNumber s.uplink.nextForward ++ le 4 s.uplink.queue.length ++
          le 4 (s.uplink.queue.filter ForwardEntry.isSent).length ++ le 4 s.uplink.backlog.length ++
          le 1 ((s.uplink.queue.drop (p.toNat - 1)).take 32).length ++
          (((s.uplink.queue.drop (p.toNat - 1)).take 32).map ForwardEntry.listed).flatten)))) ∧
    (∀ p : U32, (p = 0 ∨ 64 < p.toNat) → exec (.forwardQuery tag p) s = .next (s.replied 0x17 tag (.refused .range))) ∧
    (∀ n : U8, n.toNat < 64 →
      exec (.slotQuery tag n) s = .next (s.replied 0x1B tag (.accepted
        (s.radio.fill.fields ++ le 1 ((s.radio.slots.toList.drop n.toNat).take 8).length ++
          (((s.radio.slots.toList.drop n.toNat).take 8).map SlotEntry.fields).flatten)))) ∧
    (∀ n : U8, 64 ≤ n.toNat → exec (.slotQuery tag n) s = .next (s.replied 0x1B tag (.refused .range)) ∧
      exec (.shiftQuery tag n) s = .next (s.replied 0x30 tag (.refused .range))) ∧
    (∀ n : U8, n.toNat < 64 →
      exec (.shiftQuery tag n) s = .next (s.replied 0x30 tag (.accepted
        (s.radio.grandTotals.bytes ++ le 4 s.run.closeList.length ++ flag s.run.hold ++ le 4 s.tenders.pool.length ++
          le 1 (((List.finRange 64).drop n.toNat).take 16).length ++
          ((((List.finRange 64).drop n.toNat).take 16).map fun j => shiftRecord j.val (s.slot j)).flatten)))) ∧
    (∀ (n : U16) (c : Check) (first : U8), s.run.state ≠ .halted → n ≠ 0 → s.check n.toNat = some c →
      exec (.checkQuery tag n .summary first) s = .next (s.replied 0x06 tag (.accepted (c.summary ++ [0]))) ∧
      (1 ≤ first.toNat → first.toNat ≤ 96 →
        exec (.checkQuery tag n .lines first) s = .next (s.replied 0x06 tag (.accepted (zeros 69 ++ c.lineList first.toNat))))) ∧
    (∀ (n : U16) (part : QueryPart) (first : U8), s.run.state ≠ .halted → part.wf = true →
      let refused (r : Reason) : Prop := exec (.checkQuery tag n part first) s = .next (s.replied 0x06 tag (.refused r))
      let listed : Prop := part = .summary ∨ (part = .lines ∧ 1 ≤ first.toNat ∧ first.toNat ≤ 96)
      ((n = 0 ∨ ¬listed) → refused .range) ∧ (n ≠ 0 → listed → s.check n.toNat = none → refused .noCheck))

/-! ### The Tender Pool -/

/-- The id of the next tender is the first, counting on from the last one assigned with 65,535 followed by 1, that no tender of the pool
and no entry of the closed list has: at most 64 candidates are passed over. Its entry is the lowest-numbered free one (R45, R51). -/
def Obligations.TenderIdsAndEntries : Prop :=
  ∀ p : TenderPool, p.pool.length ≤ 48 → p.closed.length ≤ 16 →
    let used (id : Nat) : Prop := (∃ t ∈ p.pool, t.id = id) ∨ ∃ c ∈ p.closed, c.id = id
    let candidate (k : Nat) : Nat := Nat.repeat (fun id => if 65535 ≤ id then 1 else id + 1) (k + 1) p.lastId
    (1 ≤ p.nextId ∧ p.nextId ≤ 65535 ∧ ¬used p.nextId) ∧
    (∃ k, k ≤ 64 ∧ p.nextId = candidate k ∧ ∀ j, j < k → used (candidate j)) ∧
    (p.pool.length < 48 → p.freeEntry < 48 ∧ (∀ t ∈ p.pool, t.entry ≠ p.freeEntry) ∧
      ∀ e, e < p.freeEntry → ∃ t ∈ p.pool, t.entry = e)

/-- A PRESENT that fails a test of R49 is answered OUTCOME REFUSED with that test's reason and its terminal tag, and changes nothing
else (R49, R67, R97). A bound check not in use is log 44. -/
def Obligations.PresentRefused : Prop :=
  ∀ (s : State) (i : Slot) (share : U8) (part : U32) (tipKind : U8) (tipValue : U32) (token : Bytes) (method tag : U8)
    (r : OutcomeReason),
    (UplinkMessage.present share part tipKind tipValue token method tag).good = true → s.quietSlot i →
    ((∃ n, (s.slot i).mode = .routed (.bound n)) ∨ ∃ m, (s.slot i).mode = .probe m) → intakeRefusal s i share.toNat = some r →
    exec (.present i share part tipKind tipValue token method tag) s = .next (s.withSlot i
      { s.slot i with
        outcome := some ((s.slot i).nextItem, { kind := .refused, tag := tag, reason := r.code }), display := none,
        nextItem := itemAfter (s.slot i).nextItem })

/-- With the uplink UP, a PRESENT that passes R49 issues an AWAITING tender: its part, tip and hold, its expiry, AUTH REQUEST to the
host and "authorising" to the slot (R50, R51, R52). -/
def Obligations.PresentIssuesOnline : Prop :=
  ∀ (s : State) (i : Slot) (share : U8) (part : U32) (tipKind : U8) (tipValue : U32) (token : Bytes) (method tag : U8) (n : Nat)
    (c : Check) (x : Share) (m : EntryMethod),
    (UplinkMessage.present share part tipKind tipValue token method tag).good = true → s.quietSlot i →
    EntryMethod.ofCode method = some m → (s.slot i).mode = .routed (.bound n) → s.check n = some c →
    c.share share.toNat = some x → intakeRefusal s i share.toNat = none → s.line.places < 50 → s.uplink.state = .up →
    let p := if part = 0 then x.openAmt else min part.toNat x.openAmt
    let tip := settleTip s.store.settings.tipCap x.tipBase p x.due tipKind.toNat tipValue.toNat
    let t : Tender :=
      { entry := s.tenders.freeEntry, id := s.tenders.nextId, check := n, share := share.toNat, slot := i, tag := tag,
        method := m, token := token, part := p, tip := tip.1, clamped := tip.2, hold := p, state := .awaiting,
        cancelRequested := false, ps := 0, pt := 0, code := noCode, deferred := false, forward := 0,
        expiry := s.run.clock + s.store.settings.authWait, issuedAt := s.run.clock }
    let e := s.slot i
    exec (.present i share part tipKind tipValue token method tag) s = .next
      { s with
        checks := putCheck s.checks { c.hold share.toNat p with state := (c.hold share.toNat p).settledState }
        tenders := { s.tenders with pool := s.tenders.pool ++ [t], lastId := t.id }
        radio := { s.radio with slots := s.radio.slots.set i { e with
          inFlight := some t.id, display := some (e.displayNumber, .text textAuthorising p tip.1),
          nextItem := itemAfter e.displayNumber } }
        line := { s.line with queue := s.line.queue ++ [authRequestNotice t] } }

/-- With the uplink DOWN, a PRESENT that passes R49 and R79 issues a STORING tender: a forward number, a forward entry in STORING, the
exposure raised, an append request placed at the tail of the store's list, "approving" to the slot; no notice (R53, R80, R144). The store
then serves that list, or behind a write in progress takes the oldest free of the backlog where there is room (R85, R145). An append that
begins writes the entry and the next number into an empty room; which one is free (log 6), and a damaged one counts as empty (log 7).
The hand-over of a free at once (log 26) and the copy a setting write takes where the two counts are equal (log 27) are the model's. -/
def Obligations.PresentStoredOffline : Prop :=
  ∀ (s : State) (i : Slot) (share : U8) (part : U32) (tipKind : U8) (tipValue : U32) (token : Bytes) (method tag : U8) (n : Nat)
    (c : Check) (x : Share) (m : EntryMethod),
    (UplinkMessage.present share part tipKind tipValue token method tag).good = true → s.quietSlot i →
    EntryMethod.ofCode method = some m → (s.slot i).mode = .routed (.bound n) → s.check n = some c →
    c.share share.toNat = some x → intakeRefusal s i share.toNat = none → s.uplink.state = .down →
    let p := if part = 0 then x.openAmt else min part.toNat x.openAmt
    let tip := settleTip s.store.settings.tipCap x.tipBase p x.due tipKind.toNat tipValue.toNat
    offlineReason s m (p + tip.1) = none →
    let t : Tender :=
      { entry := s.tenders.freeEntry, id := s.tenders.nextId, check := n, share := share.toNat, slot := i, tag := tag,
        method := m, token := token, part := p, tip := tip.1, clamped := tip.2, hold := p, state := .storing,
        cancelRequested := false, ps := 0, pt := 0, code := noCode, deferred := false, forward := s.uplink.nextForward,
        expiry := 0, issuedAt := s.run.clock }
    let f : ForwardEntry :=
      { number := s.uplink.nextForward, tender := t.id, check := n, share := share.toNat, slot := i, requested := p + tip.1,
        part := p, tip := tip.1, method := m, token := token, time := s.run.clock, state := .storing }
    let e := s.slot i
    ∃ u : State, exec (.present i share part tipKind tipValue token method tag) s = .next u ∧ State.hands
      { s with
        checks := putCheck s.checks { c.hold share.toNat p with state := (c.hold share.toNat p).settledState }
        tenders := { s.tenders with pool := s.tenders.pool ++ [t], lastId := t.id }
        uplink := { s.uplink with
          queue := s.uplink.queue ++ [f], exposure := s.uplink.exposure + (p + tip.1), nextForward := f.number + 1 }
        radio := { s.radio with slots := s.radio.slots.set i { e with
          inFlight := some t.id, display := some (e.displayNumber, .text textApproving p tip.1),
          nextItem := itemAfter e.displayNumber } }
        store := { s.store with waiting := s.store.waiting ++ [.append f (f.number + 1)] } } u

/-- With the uplink DOWN, a PRESENT that passes R49 and fails a test of R79 issues a tender that ends DECLINED at once with that test's
reason: nothing held, no forward entry, one record, one OUTCOME. Other tenders of the check stay as they are; where none is left its
departure applies or refuses a parked change, with its record and notice, and the check settles (R9, R19, R53, R63, R79). The share
field of CHANGE APPLIED under payment lock is the model's reading (log 13). -/
def Obligations.PresentDeclinedOffline : Prop :=
  ∀ (s : State) (i : Slot) (share : U8) (part : U32) (tipKind : U8) (tipValue : U32) (token : Bytes) (method tag : U8) (n : Nat)
    (c : Check) (x : Share) (m : EntryMethod) (r : OutcomeReason),
    (UplinkMessage.present share part tipKind tipValue token method tag).good = true → s.quietSlot i →
    EntryMethod.ofCode method = some m → (s.slot i).mode = .routed (.bound n) → s.check n = some c →
    c.share share.toNat = some x → (∀ y ∈ c.shares, y.number = share.toNat → y = x) →
    intakeRefusal s i share.toNat = none → s.uplink.state = .down → (∀ t ∈ s.tenders.pool, t.id ≠ s.tenders.nextId) →
    let p := if part = 0 then x.openAmt else min part.toNat x.openAmt
    let tip := settleTip s.store.settings.tipCap x.tipBase p x.due tipKind.toNat tipValue.toNat
    offlineReason s m (p + tip.1) = some r →
    let id := s.tenders.nextId
    let e := s.slot i
    let issued : Check := { c with state := if c.parked.isSome then .barrier else .tendering }
    let events : CheckEvents := if 0 < c.inPool then ⟨issued, [], []⟩ else lastDeparture s.store.settings s.checks issued
    (events.notices = [] ∨ s.line.places + events.notices.length ≤ 56) →
    exec (.present i share part tipKind tipValue token method tag) s = .next
      { s with
        checks := putCheck s.checks events.check
        tenders := { s.tenders with
          closed := closedWith s.tenders.closed ⟨id, n, share.toNat, i, .declined, s.run.clock⟩
          lastId := id }
        radio := { s.radio with slots := s.radio.slots.set i { e with
          inFlight := none
          outcome := some (e.nextItem, {
            kind := .declined, tag := tag, tender := id, share := share.toNat, part := p, tip := tip.1, reason := r.code })
          display := none, nextItem := itemAfter e.nextItem } }
        journal := s.journal.appendAll s.run.clock
          ({ kind := .tenderDeclined, tender := id, check := n, share := share.toNat, slot := i.val, amount := p, tip := tip.1
             flags := r.code } :: events.records)
        line := { s.line with queue := s.line.queue ++ events.notices } }

/-- An approval taken for an AWAITING tender behind another that is not READY leaves it READY in the pool: ps, pt and the hold settled,
the rest of the hold released, APPROVED or PARTIAL to the slot, ACCEPTED with state READY. An amount above the requested is clamped to
it and raises OVER APPROVAL first, with source SERVER LINE and the first bytes of this AUTH RESULT (R54, R55, R64, R75, R153, R154); that
one above the range of R54 is taken so too is the model's reading (log 39), and the place of the reply is free (log 5). -/
def Obligations.ApprovalWaitsItsTurn : Prop :=
  ∀ (s : State) (tag : U8) (tender : U16) (outcome : U8) (approved : U32) (code : Bytes) (reason : U8) (t h : Tender) (c : Check)
    (x : Share),
    s.takes tag → s.run.state ≠ .halted → code.length = 6 → code.all codeChar = true → (outcome = 1 ∨ outcome = 2) →
    0 < approved.toNat → (t.part + t.tip < approved.toNat → s.owe.admits .overApproval) →
    s.tenders.find tender.toNat = some t → t.state = .awaiting → t.cancelRequested = false →
    s.tenders.issueHead t.check = some h → h.id ≠ t.id → h.state ≠ .ready → s.check t.check = some c → c.share t.share = some x →
    (s.slot t.slot).mode ≠ .routed .muted →
    let a := min approved.toNat (t.part + t.tip)
    let ps := min a t.part
    let t' := { t with ps := ps, pt := a - ps, hold := ps, code := code, state := .ready }
    let counted : State := { s.owe with uplink := { s.uplink with count := 0 } }
    let raised : State := if t.part + t.tip < approved.toNat then
      counted.faulted .overApproval .serverLine ((HostCommand.authResult tender outcome approved code reason).frame tag) else counted
    let e := s.slot t.slot
    ∃ u : State, exec (.authResult tag tender outcome approved code reason) s = .next u ∧ answeredFrom s
      { raised with
        tenders := { s.tenders with pool := s.tenders.pool.map fun u => if u.id = t.id then t' else u }
        checks := putCheck s.checks { c with
          shares := c.shares.map fun y => if y.number = t.share then
            { y with held := y.held - (t.part - ps), openAmt := y.openAmt + (t.part - ps) } else y }
        radio := { s.radio with slots := s.radio.slots.set t.slot { e with
          outcome := some (e.nextItem, {
            kind := if a = t.part + t.tip then .approved else .partially
            tag := t.tag, tender := t.id, share := t.share, part := t.part, tip := t.tip, deferred := t.deferred,
            clamped := t.clamped, ps := ps, pt := a - ps
            code := if t.deferred then le 4 t.forward ++ [0, 0] else padded 6 0x20 code
            unpaid := t.part - ps
            openAmt := if a = t.part + t.tip then 0 else x.openAmt + (t.part - ps) })
          display := none, nextItem := itemAfter e.nextItem } } }
      u ((Reply.accepted [3]).frame 0x10 tag)

/-- An approval taken for the head of a check's issue list posts at the same event, and the READY tenders right behind it post one
after another. Each pays its share, adds its tip, takes a receipt number, grows its slot's shift totals, joins the closed list, and
gives TENDER POSTED, then SHARE PAID where it is due. When none is left a parked change is applied or refused with its notice and the
check settles, CHECK SETTLED where it is due. An amount above the requested is clamped and raises OVER APPROVAL first, with source
SERVER LINE and the first bytes of this AUTH RESULT (R9, R19, R55, R64, R65, R66, R69, R154). The reply giving POSTED (log 14), the share
field of CHANGE APPLIED under payment lock (log 13) and an amount above the range of R54 taken as an over-approval (log 39) are the
model's readings, and the place of the reply among the notices is free (log 5). -/
def Obligations.ApprovalPosts : Prop :=
  ∀ (s : State) (tag : U8) (tender : U16) (outcome : U8) (approved : U32) (code : Bytes) (reason : U8) (t : Tender)
    (ready rest : List Tender) (c : Check) (x : Share),
    s.takes tag → s.run.state ≠ .halted → code.length = 6 → code.all codeChar = true → (outcome = 1 ∨ outcome = 2) →
    0 < approved.toNat →
    s.tenders.find tender.toNat = some t → t.state = .awaiting → t.cancelRequested = false → s.tenders.Splits t [] ready rest →
    s.tenders.findClosed t.id = none → s.check t.check = some c → c.inPool = (ready ++ rest).length + 1 →
    c.share t.share = some x → (s.slot t.slot).mode ≠ .routed .muted →
    let a := min approved.toNat (t.part + t.tip)
    let ps := min a t.part
    let t' := { t with ps := ps, pt := a - ps, hold := ps, code := code, state := .ready }
    let released : Check := { c with
      shares := c.shares.map fun y => if y.number = t.share then
        { y with held := y.held - (t.part - ps), openAmt := y.openAmt + (t.part - ps) } else y }
    let events := afterHead s.store.settings s.checks released (t' :: ready) rest
    let counted : State := { s.owe with uplink := { s.uplink with count := 0 } }
    let raised : State := if t.part + t.tip < approved.toNat then
      counted.faulted .overApproval .serverLine ((HostCommand.authResult tender outcome approved code reason).frame tag) else counted
    let e := s.slot t.slot
    let answered := s.radio.slots.set t.slot { e with
      outcome := some (e.nextItem, {
        kind := if a = t.part + t.tip then .approved else .partially
        tag := t.tag, tender := t.id, share := t.share, part := t.part, tip := t.tip, deferred := t.deferred, clamped := t.clamped
        ps := ps, pt := a - ps, code := if t.deferred then le 4 t.forward ++ [0, 0] else padded 6 0x20 code
        unpaid := t.part - ps
        openAmt := if a = t.part + t.tip then 0 else x.openAmt + (t.part - ps) })
      display := none, nextItem := itemAfter e.nextItem }
    raised.line.places + events.notices.length ≤ 56 →
    ∃ u : State, exec (.authResult tag tender outcome approved code reason) s = .next u ∧ answeredFrom s
      { raised with
        checks := putCheck s.checks events.check
        tenders := { s.tenders with
          pool := s.tenders.without (t :: ready), closed := closedPosted s.run.clock s.tenders.closed (t :: ready) }
        radio := { s.radio with slots := slotsPosted answered (t' :: ready) }
        journal := raised.journal.appendAll s.run.clock events.records
        line := { raised.line with queue := raised.line.queue ++ events.notices } }
      u ((Reply.accepted [4]).frame 0x10 tag)

/-- An AUTH RESULT DECLINED, or with amount 0, ends its tender DECLINED with the host's byte; any result for a tender whose cancel was
requested ends it CANCELLED, an approval with REVERSAL SENT and REVERSAL REQUEST for the amount, clamped to the requested with OVER
APPROVAL raised first, its source SERVER LINE and its bytes the first of this AUTH RESULT. The whole hold is released; the READY tenders
behind a head then post; when none is left a parked change is applied or refused and the check settles (R9, R19, R56, R57, R63, R64, R66,
R67, R68, R75, R154). That an amount above the range of R54 is clamped with OVER APPROVAL too (log 39) and the share field of CHANGE
APPLIED under payment lock (log 13) are the model's readings, and the place of the reply among the notices is free (log 5). -/
def Obligations.DeclineEnds : Prop :=
  ∀ (s : State) (tag : U8) (tender : U16) (outcome : U8) (approved : U32) (code : Bytes) (reason : U8) (t : Tender)
    (before ready rest : List Tender) (c : Check),
    s.takes tag → s.run.state ≠ .halted → code.length = 6 → code.all codeChar = true →
    (outcome = 1 ∨ outcome = 2 ∨ outcome = 3) → (outcome = 3 ∨ approved = 0 ∨ t.cancelRequested = true) →
    s.tenders.find tender.toNat = some t → t.state = .awaiting → s.tenders.Splits t before ready rest →
    s.tenders.findClosed t.id = none → s.check t.check = some c → c.inPool = (before ++ (ready ++ rest)).length + 1 →
    (s.slot t.slot).mode ≠ .routed .muted →
    let reversed := outcome ≠ 3 ∧ 0 < approved.toNat
    let clamped := reversed ∧ t.part + t.tip < approved.toNat
    let a := min approved.toNat (t.part + t.tip)
    let released : Check :=
      { c with
        shares := c.shares.map fun y => if y.number = t.share then
          { y with held := y.held - t.hold, openAmt := y.openAmt + t.hold } else y
        inPool := c.inPool - 1 }
    let events := afterHead s.store.settings s.checks released ready (before ++ rest)
    let counted : State := { s.owe with uplink := { s.uplink with count := 0 } }
    let raised : State := if clamped then
      counted.faulted .overApproval .serverLine ((HostCommand.authResult tender outcome approved code reason).frame tag) else counted
    let notices := (if reversed then [reversalNotice t a code .cancelled] else []) ++ events.notices
    let records : List JournalRecord :=
      (if reversed then
        [{ kind := .reversalSent, tender := t.id, check := t.check, share := t.share, slot := t.slot.val, amount := a,
           code := codeNumber code }] else []) ++
      [if t.cancelRequested then tenderRecord .tenderCancelled t
       else { tenderRecord .tenderDeclined t with flags := reason, hostReason := true }]
    let e := s.slot t.slot
    let why : EndReason := if t.cancelRequested then .cancelled else .declined
    let answered := s.radio.slots.set t.slot { e with
      inFlight := none
      outcome := some (e.nextItem,
        if t.cancelRequested then { kind := .cancelled, tag := t.tag, tender := t.id, share := t.share }
        else {
          kind := .declined, tag := t.tag, tender := t.id, share := t.share, part := t.part, tip := t.tip, reason := reason,
          hostReason := true })
      display := none, nextItem := itemAfter e.nextItem }
    (notices = [] ∨ raised.line.places + notices.length ≤ 56) →
    ∃ u : State, exec (.authResult tag tender outcome approved code reason) s = .next u ∧ answeredFrom s
      { raised with
        checks := putCheck s.checks events.check
        tenders := { s.tenders with
          pool := s.tenders.without (t :: ready)
          closed := closedPosted s.run.clock
            (closedWith s.tenders.closed ⟨t.id, t.check, t.share, t.slot, why, s.run.clock⟩) ready }
        radio := { s.radio with slots := slotsPosted answered ready }
        journal := raised.journal.appendAll s.run.clock (records ++ events.records)
        line := { raised.line with queue := raised.line.queue ++ notices } }
      u ((Reply.accepted [why.code]).frame 0x10 tag)

/-- An AUTH RESULT for a tender not AWAITING, ended, or unknown is answered NOT AWAITING, LATE with the end reason, or NO TENDER, with
its fault, of source SERVER LINE and with the first bytes of this AUTH RESULT in a record it captures, and changes nothing else; while
HALTED it is refused STATE, and with another outcome RANGE (R54, R153, R154, R155). That the run state is tested before the outcome is
the model's reading (log 62), and the place of the reply beside a FAULT notice is free (log 5). -/
def Obligations.AnswersOutOfTurn : Prop :=
  ∀ (s : State) (tag : U8) (tender : U16) (outcome : U8) (approved : U32) (code : Bytes) (reason : U8),
    s.takes tag → code.length = 6 → code.all codeChar = true →
    let i := Instr.authResult tag tender outcome approved code reason
    let raised (f : FaultCode) (r : Reply) : Prop :=
      s.owe.admits f → ∃ t : State, exec i s = .next t ∧ answeredFrom s
        (s.owe.faulted f .serverLine ((HostCommand.authResult tender outcome approved code reason).frame tag)) t (r.frame 0x10 tag)
    (s.run.state = .halted → exec i s = .next (s.replied 0x10 tag (.refused .state))) ∧
    (s.run.state ≠ .halted → (outcome.toNat < 1 ∨ 3 < outcome.toNat) → exec i s = .next (s.replied 0x10 tag (.refused .range))) ∧
    (s.run.state ≠ .halted → 1 ≤ outcome.toNat → outcome.toNat ≤ 3 →
      (∀ t, s.tenders.find tender.toNat = some t → t.state ≠ .awaiting → raised .notAwaiting (.refused .notAwaiting)) ∧
      (∀ c, s.tenders.find tender.toNat = none → s.tenders.findClosed tender.toNat = some c → raised .lateResult (.late c.reason)) ∧
      (s.tenders.find tender.toNat = none → s.tenders.findClosed tender.toNat = none → raised .noTender (.refused .noTender)))

/-- The expiry of an AWAITING tender ends it TIMED OUT: the hold released, REVERSAL REQUEST sent, the record written, NO ANSWER to the
slot, AUTH TIMEOUT raised, the count one higher, held at 255. A count that reaches AUTO DOWN COUNT sets an UP uplink DOWN by AUTO,
with UPLINK CHANGED and UPLINK AUTO DOWN; both faults have source UPLINK and no frame. The READY tenders behind a head then post; when
none is left a parked change is applied or refused and the check settles (R9, R19, R58, R63, R64, R66, R68, R75, R141, R153, R154). That
an event for a tender whose time has not come changes nothing (log 3), the order of the effects (log 15), the count of the record (log
17), the share field of CHANGE APPLIED under payment lock (log 13) and the expiry of a tender issued at the clock's top (log 63) are the
model's. -/
def Obligations.ExpiryEnds : Prop :=
  ∀ (s : State) (tender : U16) (t : Tender), s.live = true → s.tenders.find tender.toNat = some t → t.state = .awaiting →
    (s.run.clock < t.expiry → s.run.clock ≠ 4294967295 → exec (.authExpiry tender) s = .next s) ∧
    (∀ (before ready rest : List Tender) (c : Check), (t.expiry ≤ s.run.clock ∨ s.run.clock = 4294967295) →
      s.tenders.Splits t before ready rest → s.check t.check = some c → c.inPool = (before ++ (ready ++ rest)).length + 1 →
      (s.slot t.slot).mode ≠ .routed .muted →
      let limit := s.store.settings.autoDownCount
      let count := min 255 (s.uplink.count + 1)
      let down := limit ≠ 0 ∧ s.uplink.state = .up ∧ limit ≤ count
      let released : Check :=
        { c with
          shares := c.shares.map fun y => if y.number = t.share then
            { y with held := y.held - t.hold, openAmt := y.openAmt + t.hold } else y
          inPool := c.inPool - 1 }
      let events := afterHead s.store.settings s.checks released ready (before ++ rest)
      let told : State := { s with
        journal := s.journal.append s.run.clock (tenderRecord .tenderTimedOut t)
        line := { s.line with queue := s.line.queue ++ [reversalNotice t 0 noCode .timedOut] } }
      let timedOut := told.faulted .authTimeout .uplink []
      let counted : State := if down then
          State.faulted
            { timedOut with
              uplink := { s.uplink with count := count, state := .down, setBy := .auto }
              journal := timedOut.journal.append s.run.clock { kind := .uplinkChanged, amount := count, flags := 4 } }
            .uplinkAutoDown .uplink []
        else { timedOut with uplink := { s.uplink with count := count } }
      let e := s.slot t.slot
      let answered := s.radio.slots.set t.slot { e with
        inFlight := none
        outcome := some (e.nextItem, { kind := .noAnswer, tag := t.tag, tender := t.id, share := t.share })
        display := none, nextItem := itemAfter e.nextItem }
      counted.line.places + events.notices.length ≤ 56 →
      exec (.authExpiry tender) s = .next
        { counted with
          checks := putCheck s.checks events.check
          tenders := { s.tenders with
            pool := s.tenders.without (t :: ready)
            closed := closedPosted s.run.clock
              (closedWith s.tenders.closed ⟨t.id, t.check, t.share, t.slot, .timedOut, s.run.clock⟩) ready }
          radio := { s.radio with slots := slotsPosted answered ready }
          journal := counted.journal.appendAll s.run.clock events.records
          line := { counted.line with queue := counted.line.queue ++ events.notices } })

/-- A CANCEL of the slot's tender marks it cancel requested while it is AWAITING and shows "cancelling", shows "too late" in another
state, and with another tag or no tender does nothing (R61). -/
def Obligations.CancelRequested : Prop :=
  ∀ (s : State) (i : Slot) (tag : U8) (n : Nat), s.quietSlot i → (s.slot i).mode = .routed (.bound n) →
    let e := s.slot i
    let shown (text : Bytes) : SlotEntry :=
      { e with display := some (e.displayNumber, .text text 0 0), nextItem := itemAfter e.displayNumber }
    (e.inFlight = none → exec (.cancel i tag) s = .next s) ∧
    (∀ (id : Nat) (t : Tender), e.inFlight = some id → s.tenders.find id = some t →
      (t.tag ≠ tag → exec (.cancel i tag) s = .next s) ∧
      (t.tag = tag → t.state = .awaiting → exec (.cancel i tag) s = .next
        { s with
          tenders := { s.tenders with
            pool := s.tenders.pool.map fun u => if u.id = t.id then { t with cancelRequested := true } else u }
          radio := { s.radio with slots := s.radio.slots.set i (shown textCancelling) } }) ∧
      (t.tag = tag → t.state ≠ .awaiting → exec (.cancel i tag) s = .next (s.withSlot i (shown textTooLate))))

/-! ### Uplink Control -/

/-- UPLINK STATE sets the uplink, writes UPLINK CHANGED at a change, and at UP sets the count to 0; UP from DOWN tests forwarding, its
FORWARD notices and the reply in an order that is free (R73, R74, R82; log 5). The width of the count
is the model's reading (log 11). -/
def Obligations.UplinkStateSet : Prop :=
  ∀ (s : State) (tag state : U8), s.takes tag →
    let u := s.uplink
    (1 < state.toNat → exec (.uplinkState tag state) s = .next (s.replied 0x14 tag (.refused .range))) ∧
    (u.state = .up → exec (.uplinkState tag 0) s = .next
      (State.replied
        { s with
          uplink := { u with state := .down, setBy := .host }
          journal := s.journal.append s.run.clock { kind := .uplinkChanged, amount := u.count, flags := 2 } }
        0x14 tag (.accepted ([0, 1] ++ le 4 u.count)))) ∧
    (u.state = .down → exec (.uplinkState tag 0) s = .next
      ({ s with uplink := { u with setBy := .host } }.replied 0x14 tag (.accepted ([0, 1] ++ le 4 u.count)))) ∧
    (u.state = .up → exec (.uplinkState tag 1) s = .next
      ({ s with uplink := { u with setBy := .host, count := 0 } }.replied 0x14 tag (.accepted [1, 1, 0, 0, 0, 0]))) ∧
    (u.state = .down → (∀ e ∈ u.queue, e.state ≠ .unsent) → exec (.uplinkState tag 1) s = .next
      (State.replied
        { s with
          uplink := { u with state := .up, setBy := .host, count := 0 }
          journal := s.journal.append s.run.clock { kind := .uplinkChanged, amount := u.count, flags := 3 } }
        0x14 tag (.accepted [1, 1, 0, 0, 0, 0]))) ∧
    (u.state = .down → ∃ t : State, exec (.uplinkState tag 1) s = .next t ∧
      answeredFrom s
        (State.forwardEntries
          { s with
            uplink := { u with state := .up, setBy := .host, count := 0 }
            journal := s.journal.append s.run.clock { kind := .uplinkChanged, amount := u.count, flags := 3 }
            line := { s.line with owed := s.line.owed + 1 } })
        t ((Reply.accepted [1, 1, 0, 0, 0, 0]).frame 0x14 tag))

/-- FORWARD RESULT for a SENT entry removes it, lowers the exposure, puts its number in the free backlog and writes its record;
ACCEPTED sends nothing, REJECTED sends FORWARD REJECTED and raises its fault, of source UPLINK; forwarding is then tested. The store
serves its list, and an idle one begins the oldest free of the backlog; behind a write in progress the list takes it where none of its
frees is there and there is room. For no SENT entry it is refused NO ENTRY, its fault of source SERVER LINE; both faults carry the first
bytes of this FORWARD RESULT (R77, R82, R83, R84, R85, R145, R153, R154). That the store takes the free at this same event (log 26), the
room and the copy that a write it then begins takes (log 6, log 7, log 27) and that the outcome is tested before the number (log 62) are
the model's, and the place of the reply among the notices is free (log 5). -/
def Obligations.ForwardResultTaken : Prop :=
  ∀ (s : State) (tag : U8) (number : U32) (outcome reason : U8), s.takes tag → s.line.places < 50 →
    let frame : Bytes := (HostCommand.forwardResult number outcome reason).frame tag
    (outcome.toNat < 1 ∨ 2 < outcome.toNat →
      exec (.forwardResult tag number outcome reason) s = .next (s.replied 0x15 tag (.refused .range))) ∧
    ((outcome = 1 ∨ outcome = 2) → (∀ e ∈ s.uplink.queue, e.number = number.toNat → e.state ≠ .sent) →
      ∃ t : State, exec (.forwardResult tag number outcome reason) s = .next t ∧
        answeredFrom s (s.owe.faulted .noEntry .serverLine frame) t ((Reply.refused .noEntry).frame 0x15 tag)) ∧
    (∀ e : ForwardEntry, s.uplink.sentEntry number.toNat = some e →
      let queue := s.uplink.queue.filter fun f => f.number != e.number
      let u : Uplink :=
        { s.uplink with
          queue := queue, exposure := s.uplink.exposure - e.requested, backlog := s.uplink.backlog ++ [e.number] }
      let record : JournalRecord :=
        { kind := .forwardAccepted, tender := e.tender, check := e.check, share := e.share, slot := e.slot.val, amount := e.part,
          tip := e.tip, code := e.number }
      let data := le 4 (s.uplink.exposure - e.requested) ++ le 4 queue.length
      let quiet := ∀ f ∈ s.uplink.queue, f.state ≠ .unsent
      let ends (done : State) : Prop :=
        ∃ t : State, exec (.forwardResult tag number outcome reason) s = .next t ∧
          answeredFrom s done t ((Reply.accepted data).frame 0x15 tag)
      ∃ v : State, State.hands { s with uplink := u } v ∧
        let accepted : State := { v with
          journal := s.journal.append s.run.clock record, line := { s.line with owed := s.line.owed + 1 } }
        let rejected : State := State.faulted
          { v with
            journal := s.journal.append s.run.clock { record with kind := .forwardRejected, flags := reason, hostReason := true }
            line := { s.line with owed := s.line.owed + 1, queue := s.line.queue ++ [forwardRejectedNotice e reason] } }
          .forwardRejected .uplink frame
        (outcome = 1 → ends accepted.forwardEntries ∧
          (quiet → exec (.forwardResult tag number outcome reason) s = .next
            ({ v with journal := accepted.journal }.replied 0x15 tag (.accepted data)))) ∧
        (outcome = 2 → ends rejected.forwardEntries ∧ (quiet → ends rejected)))

/-- FORWARD RESTART makes every SENT entry UNSENT, reports how many, and tests forwarding, its FORWARD notices and the reply in an order
that is free (log 5). Forwarding, while the uplink is UP, makes the oldest UNSENT entries SENT, as many as the window has room for, and
sends one FORWARD notice for each in that order; it changes nothing of the queue but their states, and nothing else while the notices
are admitted. While the uplink is DOWN it does nothing (R77, R82, R86). -/
def Obligations.ForwardRestarts : Prop :=
  (∀ (s : State) (tag : U8), s.takes tag →
    let restarted : Uplink := { s.uplink with
      queue := s.uplink.queue.map fun e : ForwardEntry =>
        if e.state = ForwardState.sent then { e with state := .unsent } else e }
    let reply := Reply.accepted (le 4 (s.uplink.queue.filter fun e : ForwardEntry => e.state == ForwardState.sent).length)
    (∃ t : State, exec (.forwardRestart tag) s = .next t ∧
      answeredFrom s
        (State.forwardEntries { s with uplink := restarted, line := { s.line with owed := s.line.owed + 1 } }) t
        (reply.frame 0x16 tag)) ∧
    (s.uplink.state = .down → exec (.forwardRestart tag) s = .next ({ s with uplink := restarted }.replied 0x16 tag reply))) ∧
  (∀ s : State, s.uplink.state = .down → s.forwardEntries = s) ∧
  (∀ s : State, s.uplink.state = .up →
    let t := s.forwardEntries
    let sent (queue : List ForwardEntry) : Nat := (queue.filter fun e : ForwardEntry => e.state == ForwardState.sent).length
    let plain (queue : List ForwardEntry) : List ForwardEntry := queue.map fun e => { e with state := .unsent }
    ((∀ e ∈ t.uplink.queue, e.state ≠ .unsent) ∨ s.store.settings.forwardWindow ≤ sent t.uplink.queue) ∧
    plain t.uplink.queue = plain s.uplink.queue ∧
    t = { s with
      uplink := { s.uplink with queue := t.uplink.queue }, line := t.line, faults := t.faults, run := t.run
      journal := t.journal } ∧
    ((s.uplink.queue.map ForwardEntry.number).Nodup →
      let chosen := (s.uplink.queue.filter fun e : ForwardEntry => e.state == ForwardState.unsent).take
        (s.store.settings.forwardWindow - sent s.uplink.queue)
      let queue := s.uplink.queue.map fun e : ForwardEntry => if e ∈ chosen then { e with state := .sent } else e
      t.uplink.queue = queue ∧
      (s.line.places + chosen.length ≤ 56 → t = { s with
        uplink := { s.uplink with queue := queue }
        line := { s.line with queue := s.line.queue ++ chosen.map forwardNotice } })))

/-! ### The store -/

/-- SETTING WRITE that passes its tests places its write with the value clamped into the setting's range, owes its reply, and begins
when nothing is in progress; behind it the list takes the oldest free of a backlog where there is room; the tests refuse in order (R85,
R144, R145, R147). That a free is taken at this same event (log 26), the room and the copy of a write that begins where others wait (log
6, log 7) and two equal write counts (log 27) are the model's. -/
def Obligations.SettingWritePlaced : Prop :=
  (∀ (s : State) (tag setting : U8) (value : U32), s.takes tag →
    let i := Instr.settingWrite tag setting value
    let n := setting.toNat
    let v := value.toNat
    let listed := n = 7 ∨ (14 ≤ n ∧ n ≤ 17) ∨ (21 ≤ n ∧ n ≤ 26)
    let good := 1 ≤ n ∧ n ≤ 26 ∧ (listed → v ≤ 1)
    let request : StoreRequest := .setting tag n (clampSetting s.uplink.exposure n v) v
    (s.run.state ≠ .halted → exec i s = .next (s.replied 0x29 tag (.refused .state))) ∧
    (s.run.state = .halted → ¬good → exec i s = .next (s.replied 0x29 tag (.refused .range))) ∧
    (s.run.state = .halted → good → 8 ≤ s.store.waiting.length → exec i s = .next (s.replied 0x29 tag (.refused .busy))) ∧
    (s.run.state = .halted → good → s.store.waiting.length < 8 → ∃ t : State, exec i s = .next t ∧ State.hands
      { s with
        store := { s.store with waiting := s.store.waiting ++ [request] }
        line := { s.line with owed := s.line.owed + 1 } } t) ∧
    (s.run.state = .halted → good → s.store.waiting.length < 8 → s.uplink.backlog = [] →
      (s.store.current.isSome = true → exec i s = .next
        { s with
          store := { s.store with waiting := s.store.waiting ++ [request] }
          line := { s.line with owed := s.line.owed + 1 } }) ∧
      (∀ a b : SettingsCopy, s.store.current = none → s.store.waiting = [] → s.store.first = some a → s.store.second = some b →
        a.count ≠ b.count → exec i s = .next
          { s with
            store := { s.store with current := some {
              request := request
              unit := .settings (decide (a.count < b.count)) {
                count := max a.count b.count + 1
                settings := s.store.settings.put n (clampSetting s.uplink.exposure n v) } } }
            line := { s.line with owed := s.line.owed + 1 } }))) ∧
  (∀ (exposure v : Nat) (row : Nat × Nat × Nat),
    row ∈ [(1, 0, 2500), (2, 0, 2500), (3, 0, 2500), (4, 0, 2500), (5, 0, 2500), (6, 0, 24), (8, 0, 100), (9, 5, 120), (10, 0, 8),
      (11, 0, 1000000), (13, 1, 8), (18, 0, 7), (19, 0, 7), (20, 1, 4096)] →
    clampSetting exposure row.1 v = max row.2.1 (min v row.2.2)) ∧
  (∀ exposure v : Nat, clampSetting exposure 12 v = max (min v 10000000) exposure)

/-- The end of a setting write. On completion the copy is in the store and the setting in force; the slots of a line turned off are
cleared and its strobe is silent, a changed span is re-formed, a new FORWARD WINDOW tests forwarding, and the reply carries the value in
force and the clamped mark. On failure the copy is damaged, the settings stand, STORE WRITE FAIL is raised, of source STORE and with
no frame, and the reply is BUSY with the value in force and the mark 0, in the one form of the kind. The write of power-on only puts or
damages its copy, and has no reply; while the bank test of the power-on runs, the STORE WRITE FAIL of its failure waits for the end of
the test. The store then serves its list, from what the end left (R82, R85, R91, R116, R143, R145, R148, R153, R154, R164, R177). Which
writes re-form the span (log 45), that mark (log 46), the number of the setting in 1 byte (log 11), the held strobe (log 28), the
hand-over of a free (log 26), a damaged room counted as empty (log 6, log 7), the copy taken where two write counts are equal (log 27)
and that the raise of power-on waits, but not once a line reset has been taken (log 66), are the model's readings; the place of the reply among the notices (log 5) and which empty room an append takes (log
6) are free. -/
def Obligations.SettingWriteEnds : Prop :=
  ∀ (s : State) (request : StoreRequest) (first : Bool) (copy : SettingsCopy), s.powered = true →
    s.store.current = some { request := request, unit := .settings first copy } →
    let put (x : Option SettingsCopy) : SettingStore :=
      { s.store with
        current := none, first := if first then x else s.store.first, second := if first then s.store.second else x }
    (request = .powerOnSettings →
      (∃ t : State, exec .settingWriteComplete s = .next t ∧ State.serves { s with store := put (some copy) } t) ∧
      let waits := (∃ b : Fin 8, s.journal.results[b] = .untested) ∧ s.run.lastReset = none
      (waits → ∃ t : State, exec .settingWriteFail s = .next t ∧
        State.serves { s with store := put none, faults := { s.faults with writeFailWaits := true } } t) ∧
      (¬waits → s.admits .storeWriteFail → ∃ t : State, exec .settingWriteFail s = .next t ∧
        State.serves (State.faulted { s with store := put none } .storeWriteFail .store []) t)) ∧
    ∀ (tag : U8) (n v named : Nat), request = .setting tag n v named → 1 ≤ n → n ≤ 26 →
    (s.admits .storeWriteFail → ∃ u t : State, exec .settingWriteFail s = .next t ∧ u.serves t ∧
      answeredFrom s (State.faulted { s with store := put none } .storeWriteFail .store []) u
        ((Reply.refusedWith .busy (le 1 n ++ le 4 (s.store.settings.get n) ++ [0])).frame 0x29 tag)) ∧
    (n ≠ 13 →
      let after := s.store.settings.put n v
      ∃ u t : State, exec .settingWriteComplete s = .next t ∧ u.serves t ∧
        u = { s with
          store := { put (some copy) with settings := after }
          radio := { s.radio with
            slots := u.radio.slots
            strobes := #v[s.radio.strobes[0] && after.lineEnable0, s.radio.strobes[1] && after.lineEnable1,
              s.radio.strobes[2] && after.lineEnable2, s.radio.strobes[3] && after.lineEnable3] }
          journal :=
            if (n = 18 ∨ n = 19) ∧ (after.journalBase ≠ s.journal.base ∨ after.journalExtent ≠ s.journal.extent) then
              { s.journal with
                base := after.journalBase, extent := after.journalExtent, floor := s.journal.next, snapshot := none }
            else s.journal
          line := { s.line with
            owed := s.line.owed - 1
            queue := s.line.queue ++
              [(Reply.accepted (le 1 n ++ le 4 (after.get n) ++ flag (after.get n != named))).frame 0x29 tag] } } ∧
        ∀ i : Slot, u.slot i =
          if s.store.settings.lineEnabled (i.val / 16) = true ∧ after.lineEnabled (i.val / 16) = false then
            { s.slot i with
              mode := .routed .idle, presence := .absent, terminalId := none, outcome := none, display := none }
          else s.slot i) ∧
    (n = 13 →
      let after := s.store.settings.put 13 v
      let strobes := #v[s.radio.strobes[0] && after.lineEnable0, s.radio.strobes[1] && after.lineEnable1,
        s.radio.strobes[2] && after.lineEnable2, s.radio.strobes[3] && after.lineEnable3]
      ∃ u t : State, exec .settingWriteComplete s = .next t ∧ u.serves t ∧
        answeredFrom s
          (State.forwardEntries
            { s with store := { put (some copy) with settings := after }, radio := { s.radio with strobes := strobes } })
          u ((Reply.accepted (le 1 13 ++ le 4 (after.get 13) ++ flag (after.get 13 != named))).frame 0x29 tag))

/-- The end of a forward append. On completion its copy stands in its room, its entry is UNSENT, DEFERRED APPROVED is written, its
STORING tender is answered: READY, deferred, OUTCOME APPROVED with its forward number; at the head it posts at once, with the READY
tenders behind it; behind a tender that is not READY it waits; then forwarding is tested. On failure the entry is removed, the
exposure falls, the store holds no copy, the STORING tender ends DECLINED with reason STORE, its hold released, and STORE WRITE FAIL
is raised, of source STORE and with no frame. An entry that a line reset removed leaves its number to the free backlog (R9, R19, R62,
R63, R64, R66, R81, R82, R85, R87, R145, R154). The store then serves its list, from what the end left. A write that found no empty room
cannot complete (R145; log 3). What the failed room holds (log 7) and which empty room a next append takes (log 6) are free. The order
of the effects of a failure (log 16), the share field of CHANGE APPLIED under payment lock (log 13), a damaged room counted as empty (log
6, log 7), the hand-over of a free at once (log 26) and the copy taken where two write counts are equal (log 27) are the model's
readings. -/
def Obligations.AppendEnds : Prop :=
  ∀ (s : State) (e : ForwardEntry) (next : Nat) (unit : StoreUnit), s.powered = true →
    s.store.current = some { request := .append e next, unit := unit } → (∀ first copy, unit ≠ .settings first copy) →
    let stored (room : Fin 64) (content : Room) : SettingStore :=
      { s.store with current := none, rooms := s.store.rooms.set room content }
    let unsent : Uplink := { s.uplink with
      queue := s.uplink.queue.map fun x : ForwardEntry => if x.number = e.number then { x with state := .unsent } else x }
    let approved (f : ForwardEntry) : JournalRecord :=
      { kind := .deferredApproved, tender := f.tender, check := f.check, share := f.share, slot := f.slot.val, amount := f.part,
        tip := f.tip, code := f.number }
    let removed (f : ForwardEntry) : Uplink := { s.uplink with
      queue := s.uplink.queue.filter (fun x => x.number != f.number), exposure := s.uplink.exposure - f.requested }
    let completes (u : State) : Prop := ∃ t : State, exec .forwardAppendComplete s = .next t ∧ u.serves t
    let fails (u : State) : Prop :=
      u.admits .storeWriteFail → ∃ (rooms : Vector Room 64) (t : State), exec .forwardAppendFail s = .next t ∧
        (rooms = s.store.rooms ∨ ∃ room content, unit = .room room content ∧ rooms = s.store.rooms.set room .damaged) ∧
        State.serves
          (State.faulted
            { u with store := { s.store with current := none, rooms := rooms }, freeCount := s.freeCount + 1 }
            .storeWriteFail .store []) t
    (unit = .nothing → exec .forwardAppendComplete s = .next s) ∧
    -- a line reset removed the entry
    (s.uplink.queue.find? (fun x => x.number == e.number) = none →
      (∀ room content, unit = .room room content → completes
        { s with uplink := { s.uplink with backlog := s.uplink.backlog ++ [e.number] }, store := stored room content }) ∧
      fails s) ∧
    -- the entry is in the queue, its tender not in the pool
    (∀ f : ForwardEntry, s.uplink.queue.find? (fun x => x.number == e.number) = some f → s.tenders.find f.tender = none →
      (∀ room content, unit = .room room content → completes (State.forwardEntries
        { s with store := stored room content, uplink := unsent, journal := s.journal.append s.run.clock (approved f) })) ∧
      fails { s with uplink := removed f }) ∧
    -- the entry is in the queue and its STORING tender in the pool
    (∀ (f : ForwardEntry) (t : Tender), s.uplink.queue.find? (fun x => x.number == e.number) = some f →
      s.tenders.find f.tender = some t → (s.slot t.slot).mode ≠ .routed .muted →
      let t' := { t with state := .ready, ps := t.part, pt := t.tip, deferred := true }
      let entry := s.slot t.slot
      let answered := s.radio.slots.set t.slot { entry with
        outcome := some (entry.nextItem, {
          kind := .approved, tag := t.tag, tender := t.id, share := t.share, part := t.part, tip := t.tip, deferred := true,
          clamped := t.clamped, ps := t.part, pt := t.tip, code := le 4 t.forward ++ [0, 0] })
        display := none, nextItem := itemAfter entry.nextItem }
      (∀ (h : Tender) (room : Fin 64) (content : Room), unit = .room room content →
        s.tenders.issueHead t.check = some h → h.id ≠ t.id → h.state ≠ .ready →
        completes (State.forwardEntries
          { s with
            store := stored room content, uplink := unsent, journal := s.journal.append s.run.clock (approved f)
            tenders := { s.tenders with pool := s.tenders.pool.map fun u => if u.id = t.id then t' else u }
            radio := { s.radio with slots := answered } })) ∧
      (∀ (ready rest : List Tender) (c : Check) (room : Fin 64) (content : Room), unit = .room room content →
        s.tenders.Splits t [] ready rest → s.check t.check = some c → c.inPool = (ready ++ rest).length + 1 →
        let events := afterHead s.store.settings s.checks c (t' :: ready) rest
        s.line.places + events.notices.length ≤ 56 →
        completes (State.forwardEntries
          { s with
            store := stored room content, uplink := unsent
            checks := putCheck s.checks events.check
            tenders := { s.tenders with
              pool := s.tenders.without (t :: ready), closed := closedPosted s.run.clock s.tenders.closed (t :: ready) }
            radio := { s.radio with slots := slotsPosted answered (t' :: ready) }
            journal := s.journal.appendAll s.run.clock (approved f :: events.records)
            line := { s.line with queue := s.line.queue ++ events.notices } })) ∧
      (∀ (before ready rest : List Tender) (c : Check), s.tenders.Splits t before ready rest → s.check t.check = some c →
        c.inPool = (before ++ (ready ++ rest)).length + 1 →
        let released : Check :=
          { c with
            shares := c.shares.map fun y => if y.number = t.share then
              { y with held := y.held - t.hold, openAmt := y.openAmt + t.hold } else y
            inPool := c.inPool - 1 }
        let events := afterHead s.store.settings s.checks released ready (before ++ rest)
        let declined := s.radio.slots.set t.slot { entry with
          inFlight := none
          outcome := some (entry.nextItem, {
            kind := .declined, tag := t.tag, tender := t.id, share := t.share, part := t.part, tip := t.tip, reason := 15 })
          display := none, nextItem := itemAfter entry.nextItem }
        s.line.places + events.notices.length ≤ 56 →
        fails
          { s with
            uplink := removed f
            checks := putCheck s.checks events.check
            tenders := { s.tenders with
              pool := s.tenders.without (t :: ready)
              closed := closedPosted s.run.clock
                (closedWith s.tenders.closed ⟨t.id, t.check, t.share, t.slot, .declined, s.run.clock⟩) ready }
            radio := { s.radio with slots := slotsPosted declined ready }
            journal := s.journal.appendAll s.run.clock ({ tenderRecord .tenderDeclined t with flags := 15 } :: events.records)
            line := { s.line with queue := s.line.queue ++ events.notices } }))

/-- The end of a forward free: on completion the number leaves the backlog and its room holds no copy; on failure both stay and STORE
WRITE FAIL is raised, of source STORE and with no frame. The store then serves its list, and hands the oldest number of the backlog to
it, on a failure the same one again (R85, R145, R153, R154). That it does so at the same event (log 26), a damaged room counted as empty
(log 6, log 7) and the copy taken where two write counts are equal (log 27) are the model's readings; which empty room an append takes
is free (log 6). -/
def Obligations.FreeEnds : Prop :=
  ∀ (s : State) (n : Nat) (rest : List Nat) (room : Fin 64) (next : Option Nat), s.powered = true →
    s.store.current = some { request := .free n, unit := .room room (.empty next) } → s.uplink.backlog = n :: rest →
    (∃ t : State, exec .forwardFreeComplete s = .next t ∧ State.serves
      { s with
        store := { s.store with current := none, rooms := s.store.rooms.set room (.empty next) }
        uplink := { s.uplink with backlog := rest } } t) ∧
    (s.admits .storeWriteFail → ∃ t : State, exec .forwardFreeFail s = .next t ∧ State.serves
      (State.faulted { s with store := { s.store with current := none } } .storeWriteFail .store []) t)

/-! ### The radio side -/

/-- Terminal frames and echo turns on a disabled line, while HALTED, and while the part is off or in reset do nothing; a good
frame given as raw bytes is the message it spells; one that fails R92 uses an echo turn up and raises RADIO FRAME BAD: a record it
captures has the slot as its source and the first 8 bytes of the radio frame (R91, R92, R112, R153, R154). That the row carries the frame
(log 30) and that a WAKE may carry any 8 bytes (log 56) are the model's. -/
def Obligations.RadioFramesGated : Prop :=
  ∀ (s : State) (i : Slot) (m : UplinkMessage) (f : Bytes),
    (s.live = false ∨ s.slotEnabled i = false ∨ s.run.state = .halted →
      exec (radioRow i m) s = .next s ∧ exec (.badUplinkFrame i f) s = .next s ∧ exec (.echoTurn i) s = .next s) ∧
    (s.live = true → s.slotEnabled i = true → s.run.state ≠ .halted →
      (m.good = true → exec (.badUplinkFrame i m.frame) s = exec (radioRow i m) s) ∧
      (m.good = false → s.admits .radioFrameBad → exec (radioRow i m) s = .next
        ((s.withSlot i (s.slot i).missEcho).faulted .radioFrameBad (.slot i) m.frame)) ∧
      (goodUplink f = none → s.admits .radioFrameBad → exec (.badUplinkFrame i f) s = .next
        ((s.withSlot i (s.slot i).missEcho).faulted .radioFrameBad (.slot i) f)))

/-- WAKE gives the slot its terminal id, makes an ABSENT slot PRESENT with SLOT PRESENCE to the host where it is BOUND, and shows the
display of the mode; none in MUTED and PROBE (R94, R96, R97; section 5.2). That its id may be any 8 bytes is the model's reading
(log 56). -/
def Obligations.WakeTaken : Prop :=
  ∀ (s : State) (i : Slot) (id : Bytes), s.quietSlot i → id.length = 8 → s.line.places < 50 →
    let e := s.slot i
    let e1 := { e with terminalId := some id, presence := .present }
    let shown (d : Display) : SlotEntry := { e1 with display := some (e.displayNumber, d), nextItem := itemAfter e.displayNumber }
    (e.mode = .routed .idle → exec (.wake i id) s = .next (s.withSlot i (shown (.text textNotAssigned 0 0)))) ∧
    (∀ t, e.mode = .routed (.message t) → exec (.wake i id) s = .next (s.withSlot i (shown (.text t 0 0)))) ∧
    (e.mode = .routed .muted → exec (.wake i id) s = .next (s.withSlot i e1)) ∧
    (∀ m, e.mode = .probe m → exec (.wake i id) s = .next (s.withSlot i e1)) ∧
    (∀ (n : Nat) (c : Check), e.mode = .routed (.bound n) → s.check n = some c →
      exec (.wake i id) s = .next
        { s.withSlot i (shown (.text textCheck n c.table)) with
          line := { s.line with queue := s.line.queue ++
            if e.presence = .present then [] else [slotPresenceNotice i .present (some id) n (e.inFlight.getD 0)] } })

/-- PICK shows the SHARES of the bound check, and "not assigned" in IDLE; PRESENT in IDLE is answered "not assigned"; the other modes
ignore PICK, PRESENT and CANCEL, but for a PROBE slot's PRESENT. ACK of the number of the pending outcome or of the current display
clears that item, another number changes nothing, and a MUTED slot ignores it (R99 to R103, R110). That an ACK of item 0 is such a stale
number and no bad frame is the model's reading (log 43). -/
def Obligations.TerminalFramesTaken : Prop :=
  (∀ (s : State) (i : Slot) (share : U8) (part : U32) (tipKind : U8) (tipValue : U32) (token : Bytes) (method tag : U8),
    s.quietSlot i → (UplinkMessage.present share part tipKind tipValue token method tag).good = true →
    let e := s.slot i
    let present := Instr.present i share part tipKind tipValue token method tag
    let shown (d : Display) : SlotEntry := { e with display := some (e.displayNumber, d), nextItem := itemAfter e.displayNumber }
    (∀ (n : Nat) (c : Check), e.mode = .routed (.bound n) → s.check n = some c →
      let view (x : Share) : ShareView := { due := x.due, openAmt := x.openAmt, paid := x.paid == x.due }
      exec (.pick i) s = .next (s.withSlot i (shown
        (.shares c.number c.table c.state c.totals.d ((c.shares.filter fun x => x.number != 25).map view)
          ((c.shares.find? fun x => x.number == 25).map view))))) ∧
    (e.mode = .routed .idle →
      exec (.pick i) s = .next (s.withSlot i (shown (.text textNotAssigned 0 0))) ∧
      exec present s = .next (s.withSlot i (shown (.text textNotAssigned 0 0))) ∧ exec (.cancel i tag) s = .next s) ∧
    ((e.mode = .routed .muted ∨ ∃ t, e.mode = .routed (.message t)) →
      exec (.pick i) s = .next s ∧ exec present s = .next s ∧ exec (.cancel i tag) s = .next s) ∧
    (∀ m, e.mode = .probe m → exec (.pick i) s = .next s ∧ exec (.cancel i tag) s = .next s)) ∧
  (∀ (s : State) (i : Slot) (item : U8), s.quietSlot i →
    let e := s.slot i
    (e.mode = .routed .muted → exec (.ack i item) s = .next s) ∧
    (e.mode ≠ .routed .muted →
      (∀ o, e.outcome = some (item.toNat, o) → exec (.ack i item) s = .next (s.withSlot i { e with outcome := none })) ∧
      (∀ d, e.outcome.map Prod.fst ≠ some item.toNat → e.display = some (item.toNat, d) →
        exec (.ack i item) s = .next (s.withSlot i { e with display := none })) ∧
      (e.outcome.map Prod.fst ≠ some item.toNat → e.display.map Prod.fst ≠ some item.toNat → exec (.ack i item) s = .next s)))

/-- In an echo turn a good ECHO adds the bits that differ from the pattern sent, and any other end of the turn is a missed echo; both
counters are held at their tops. Out of a turn an ECHO changes nothing (R111, R112). The marks of the turns (log 19) and that an
ECHO_TURN in which nothing is awaited changes nothing (log 3) are the model's own. -/
def Obligations.EchoTurnsCounted : Prop :=
  ∀ (s : State) (i : Slot) (pattern : Bytes), s.hears i = true → (s.slot i).presence ≠ .lost → pattern.length = 32 →
    let e := s.slot i
    (∀ r, e.echoDue = some r →
      exec (.echo i pattern) s = .next (s.withSlot i
        { e with
          errorBits := min 65535 (e.errorBits +
            ((pattern.zip (patternBytes 32 r)).map fun x => ((List.range 8).filter fun k => (x.1 ^^^ x.2).getLsbD k).length).sum)
          echoDue := none }) ∧
      exec (.echoTurn i) s = .next (s.withSlot i { e with missedEchoes := min 255 (e.missedEchoes + 1), echoDue := none }) ∧
      ∀ m : UplinkMessage, m.kind ≠ 0x06 →
        exec (radioRow i m) s = exec (radioRow i m)
          (s.withSlot i { e with missedEchoes := min 255 (e.missedEchoes + 1), echoDue := none })) ∧
    (e.echoDue = none → exec (.echo i pattern) s = .next s ∧ exec (.echoTurn i) s = .next s)

/-- A range report makes a PRESENT slot LOST and a LOST slot PRESENT, with SLOT PRESENCE to the host where it is BOUND; a probe ends
early first, with PROBE RESULT. It changes no other slot. A good frame from a LOST slot makes it PRESENT before it is taken (R95, R96,
R113). -/
def Obligations.PresenceMoves : Prop :=
  ∀ (s : State) (i : Slot), s.live = true → s.slotEnabled i = true → s.line.places < 50 →
    let e := s.slot i
    let told (m : SlotMode) (p : Presence) : List Frame :=
      match m with
      | .routed (.bound n) => [slotPresenceNotice i p e.terminalId n (e.inFlight.getD 0)]
      | .routed .idle | .routed (.message _) | .routed .muted | .probe _ => []
    let moved (e' : SlotEntry) (frames : List Frame) : State :=
      { s.withSlot i e' with line := { s.line with queue := s.line.queue ++ frames } }
    (e.presence = .absent → ∀ b, exec (.presenceReport i b) s = .next s) ∧
    (e.presence = .present → exec (.presenceReport i true) s = .next s) ∧
    (e.presence = .lost → exec (.presenceReport i false) s = .next s) ∧
    (e.presence = .lost → exec (.presenceReport i true) s = .next (moved { e with presence := .present } (told e.mode .present))) ∧
    (∀ m, e.presence = .present → e.mode = .routed m →
      exec (.presenceReport i false) s = .next (moved { e with presence := .lost } (told e.mode .lost))) ∧
    (∀ m, e.presence = .present → e.mode = .probe m →
      exec (.presenceReport i false) s = .next (moved
        { e with presence := .lost, mode := .routed m, armed := false, sentNow := none, echoDue := none }
        ([probeResultNotice i e true] ++ told (.routed m) .lost))) ∧
    (∀ m : UplinkMessage, e.presence = .lost → s.run.state ≠ .halted → m.good = true → m.kind ≠ 0x01 → e.echoDue = none →
      exec (radioRow i m) s = exec (radioRow i m) (moved { e with presence := .present } (told e.mode .present)))

/-- What a position is handed at its downlink turn: no frame on a disabled line, in HALTED and in MUTED; the next PROBE; STANDBY to a
slot that is not PRESENT or in PROBE; else the pending outcome, else the current display, else STANDBY (R91, R98, R110, R111). The
frame index and the marks of the turns are the model's (log 19), as is RDO (log 28). -/
def Obligations.DownlinkTurnSends : Prop :=
  ∀ (s : State) (i : Slot), s.live = true →
    let e := s.slot i
    let standby := standbyFrame i e
    let probes := (∃ m, e.mode = .probe m) ∧ e.armed = true ∧ e.framesSent < e.framesToSend ∧ e.sentNow = none
    let sends (f : Option Bytes) : Prop := exec (.downlinkTurn i) s = .next (s.withSlot i { e with downlink := f })
    (s.slotEnabled i = false ∨ s.run.state = .halted ∨ e.mode = .routed .muted → sends none) ∧
    (s.slotEnabled i = true → s.run.state ≠ .halted → e.mode ≠ .routed .muted →
      (probes → exec (.downlinkTurn i) s = .next (s.withSlot i
        { e with
          framesSent := e.framesSent + 1, sentNow := some e.pattern, pattern := lfsrAfter 256 e.pattern
          downlink := some (radioFrame 0x85 (le 1 (e.framesSent + 1) ++ patternBytes 32 e.pattern)) })) ∧
      (¬probes → (e.presence ≠ .present ∨ ∃ m, e.mode = .probe m) → sends (some standby)) ∧
      (∀ m, e.presence = .present → e.mode = .routed m →
        (∀ n o, e.outcome = some (n, o) → sends (some (radioFrame 0x81 (o.body n)))) ∧
        (∀ n d, e.outcome = none → e.display = some (n, d) → sends (some (radioFrame d.kind (d.body n)))) ∧
        (e.outcome = none → e.display = none → sends (some standby))))

/-- A superframe boundary marks the strobes of the enabled lines, moves the sync drive, makes a half of a running fill due, and at
each slot in PROBE ends the probe that has sent all its frames, with PROBE RESULT, in slot order, or opens the echo turn of the frame
just sent. It changes no other slot (R90, R107, R112, R113, R128). The marks of the turns and of the half due are the model's own (log
18, log 19), as are the held strobe (log 28) and that a probe ends before the half of its boundary is judged (log 60). -/
def Obligations.BoundaryMarks : Prop :=
  (∀ s : State, s.powered = false → exec .superframeBoundary s = .next s) ∧
  (∀ s : State, s.powered = true →
    let done (e : SlotEntry) : Bool := e.probing && e.armed && e.framesSent == e.framesToSend && e.sentNow.isNone
    let results := ((List.finRange 64).filter fun i => done (s.slot i)).map fun i => probeResultNotice i (s.slot i).missEcho false
    let drive : SyncDrive := match s.journal.drive with
      | .due => .driving
      | .driving => .idle
      | .idle => .idle
    ∃ t : State, exec .superframeBoundary s = .next t ∧
      t = { s with
        radio := { s.radio with
          slots := t.radio.slots, strobes := s.store.settings.strobes, fillDue := s.radio.fillDue || s.radio.fill.state != .none }
        journal := t.journal, line := { s.line with queue := t.line.queue }, run := t.run, faults := t.faults } ∧
      t.journal.drive = drive ∧ s.line.queue <+: t.line.queue ∧
      (s.line.places + results.length ≤ 56 →
        t.line.queue = s.line.queue ++ results ∧ t.journal = { s.journal with drive := drive } ∧ t.run = s.run ∧
          t.faults = s.faults) ∧
      ∀ i : Slot,
        let e := s.slot i
        (∀ m, e.mode = .routed m → t.slot i = e) ∧
        (∀ m, e.mode = .probe m → done e = true → t.slot i =
          { e.missEcho with mode := .routed m, armed := false, sentNow := none, echoDue := none }) ∧
        (∀ m, e.mode = .probe m → done e = false → t.slot i =
          { e.missEcho with armed := true, echoDue := e.sentNow, sentNow := none })) ∧
  (∀ s : State, s.powered = true → (∀ (i : Slot) (m : RouteMode), (s.slot i).mode ≠ .probe m) →
    exec .superframeBoundary s = .next
      { s with
        radio := { s.radio with
          strobes := s.store.settings.strobes, fillDue := s.radio.fillDue || s.radio.fill.state != .none }
        journal := { s.journal with drive := s.journal.drive.atBoundary } })

/-- A half of a fill that is due routes its 32 slots, IDLE where the target was freed, passing over those with a tender in flight, in
PROBE, or on a disabled line unless the mode is IDLE; after the second half FILL DONE is sent. The other slots are unchanged (R106,
R107, R108, R109). The mark of the half due (log 18), that a half that is not due changes nothing (log 3) and that a probe that completes
at that boundary has ended when the half is judged (log 60) are the model's own. -/
def Obligations.FillHalfRoutes : Prop :=
  ∀ s : State,
    let f := s.radio.fill
    let skips (i : Slot) : Bool :=
      (s.slot i).inFlight.isSome || (s.slot i).probing || (!s.slotEnabled i && f.mode != .idle)
    let routed (i : Slot) : SlotEntry :=
      if f.targetFreed then (s.slot i).setIdle s.checks else (s.slot i).route s.checks f.mode
    let half (first : Nat) : List Slot := (List.finRange 64).filter fun i => decide (first ≤ i.val ∧ i.val < first + 32)
    let after (first : Nat) (t : State) : Prop :=
      ∀ i : Slot, t.slot i = if first ≤ i.val ∧ i.val < first + 32 ∧ skips i = false then routed i else s.slot i
    let record (first : Nat) (state : FillState) : FillRecord :=
      { f with
        state := state, filled := f.filled + ((half first).filter fun i => !skips i).length
        skipped := f.skipped ++ ((half first).filter skips).map Fin.val }
    ((s.powered = false ∨ s.radio.fillDue = false) → exec .fillHalf s = .next s) ∧
    (s.powered = true → s.radio.fillDue = true →
      (f.state = .none → exec .fillHalf s = .next { s with radio := { s.radio with fillDue := false } }) ∧
      (f.state = .firstHalf → ∃ t : State, exec .fillHalf s = .next t ∧ after 0 t ∧
        t = { s with radio := { s.radio with
          slots := t.radio.slots, fill := record 0 .secondHalf, fillDue := false } }) ∧
      (f.state = .secondHalf → s.line.places < 50 → ∃ t : State, exec .fillHalf s = .next t ∧ after 32 t ∧
        t = { s with
          radio := { s.radio with slots := t.radio.slots, fill := record 32 .none, fillDue := false }
          line := { s.line with queue := s.line.queue ++
            [fillDoneNotice f.mode (record 32 .none).filled (record 32 .none).skipped] } }))

/-- ROUTE SLOT, ROUTE FILL and PROBE SLOT: the tests of each, in order, the first that fails the reply; and one that passes: the slot's
items cleared, its mode set and that mode's display placed; the fill record set; the probe set up (R105, R106, R107, R110, R111). -/
def Obligations.RouteCommandsTaken : Prop :=
  ∀ (s : State) (tag : U8), s.takes tag →
    let filling := s.radio.fill.state ≠ .none
    let busy (i : Slot) : Prop := (∃ m, (s.slot i).mode = .probe m) ∨ (s.slot i).inFlight ≠ none
    (∀ (slot mode : U8) (check : U16) (text : Bytes), text.length = 32 →
      let refused (r : Reason) : Prop := exec (.routeSlot tag slot mode check text) s = .next (s.replied 0x18 tag (.refused r))
      let bad := 3 < mode.toNat ∨ (mode = 1 ∧ check = 0) ∨ (mode = 2 ∧ ∀ b ∈ text, b = 0x20)
      (s.run.state = .halted → refused .state) ∧
      (s.run.state ≠ .halted → (63 < slot.toNat ∨ bad) → refused .range) ∧
      (∀ i : Slot, s.run.state ≠ .halted → slot = slotByte i → ¬bad →
        let off := s.slotEnabled i = false ∧ mode ≠ 0
        (off → refused .range) ∧ (¬off → filling → refused .busy) ∧ (¬off → ¬filling → busy i → refused .slotBusy) ∧
        (¬off → ¬filling → ¬busy i → mode = 1 → s.check check.toNat = none → refused .noCheck))) ∧
    (∀ (mode : U8) (check : U16) (text : Bytes), text.length = 32 →
      let refused (r : Reason) : Prop := exec (.routeFill tag mode check text) s = .next (s.replied 0x19 tag (.refused r))
      let bad := 3 < mode.toNat ∨ (mode = 1 ∧ check = 0) ∨ (mode = 2 ∧ ∀ b ∈ text, b = 0x20)
      (s.run.state = .halted → refused .state) ∧ (s.run.state ≠ .halted → bad → refused .range) ∧
      (s.run.state ≠ .halted → ¬bad → filling → refused .busy) ∧
      (s.run.state ≠ .halted → ¬bad → ¬filling → mode = 1 → s.check check.toNat = none → refused .noCheck)) ∧
    (∀ (slot : U8) (frames : U32),
      let refused (r : Reason) : Prop := exec (.probeSlot tag slot frames) s = .next (s.replied 0x1A tag (.refused r))
      (s.run.state = .halted → refused .state) ∧
      (s.run.state ≠ .halted → (63 < slot.toNat ∨ frames = 0 ∨ 255 < frames.toNat) → refused .range) ∧
      (∀ i : Slot, s.run.state ≠ .halted → slot = slotByte i → 1 ≤ frames.toNat → frames.toNat ≤ 255 →
        (s.slotEnabled i = false → refused .range) ∧ (s.slotEnabled i = true → filling → refused .busy) ∧
        (s.slotEnabled i = true → ¬filling → busy i → refused .slotBusy) ∧
        (s.slotEnabled i = true → ¬filling → ¬busy i → (s.slot i).presence ≠ .present → refused .state))) ∧
    (s.run.state ≠ .halted → ¬filling →
      (∀ (slot : Slot) (mode : U8) (check : U16) (text : Bytes) (m : RouteMode), text.length = 32 →
        routeOfFields mode check text = some m → (∀ n, m = .bound n → (s.check n).isSome = true) →
        (s.slotEnabled slot = true ∨ m = .idle) → ¬busy slot →
        let e := s.slot slot
        exec (.routeSlot tag (slotByte slot) mode check text) s = .next
          (State.replied
            (s.withSlot slot
              { e with
                mode := .routed m, outcome := none, display := (modeDisplay s.checks m).map fun d => (e.nextItem, d)
                nextItem := if m = .muted then e.nextItem else itemAfter e.nextItem })
            0x18 tag (.accepted ([m.code, e.presence.code] ++ idField e.terminalId)))) ∧
      (∀ (mode : U8) (check : U16) (text : Bytes) (m : RouteMode), text.length = 32 → routeOfFields mode check text = some m →
        (∀ n, m = .bound n → (s.check n).isSome = true) →
        exec (.routeFill tag mode check text) s = .next
          ({ s with radio := { s.radio with fill := {
              state := .firstHalf, mode := m, targetFreed := false, filled := 0, skipped := [] } } }.replied 0x19 tag
            (.accepted []))) ∧
      (∀ (slot : Slot) (frames : U32) (m : RouteMode), 1 ≤ frames.toNat → frames.toNat ≤ 255 → s.slotEnabled slot = true →
        (s.slot slot).mode = .routed m → (s.slot slot).inFlight = none → (s.slot slot).presence = .present →
        exec (.probeSlot tag (slotByte slot) frames) s = .next
          (State.replied
            (s.withSlot slot
              { s.slot slot with
                mode := .probe m, framesToSend := frames.toNat, framesSent := 0, errorBits := 0, missedEchoes := 0
                pattern := BitVec.allOnes 15, armed := false, sentNow := none, echoDue := none })
            0x1A tag (.accepted []))))

/-! ### The Journal -/

/-- An append gives the record the next number and the clock and is read back from its cell; no other cell changes, and the numbers of
one span's length lie in different cells; once the numbering is exhausted it is discarded (R116, R119). -/
def Obligations.AppendWritten : Prop :=
  ∀ (j : Journal) (clock : Nat) (r : JournalRecord), cellsWf j.cells = true → j.extent ≤ 7 →
    let j' := j.append clock r
    (4294967296 ≤ j.next → j' = j) ∧
    (j.next < 4294967296 →
      j' = { j with cells := j'.cells, next := j.next + 1 } ∧ cellsWf j'.cells = true ∧
      cellsRead (j.cellOf j.next) j'.cells = some { r with seq := j.next, time := clock } ∧
      ∀ cell, cell ≠ j.cellOf j.next → cellsRead cell j'.cells = cellsRead cell j.cells) ∧
    (∀ n m, n < m → m < n + (j.extent + 1) * 512 → j.cellOf n ≠ j.cellOf m) ∧ (∀ n, j.cellOf n < 4096)

/-- SNAP cuts a relative or an absolute snapshot, or with sync option asks for a drive of the SNAP line; a falling edge cuts a
relative one with SNAPSHOT TAKEN; SNAP FREEZE sets the intake hold in IDLE and SERVING (R124 to R129). A freeze with the hold already
on is left out (log 23); the sync reply's bytes (log 33), a next, start or oldest number of 2^32 sent as 0 (log 50) and a depth above
65,535 clamped and not refused (log 51) are the model's readings. -/
def Obligations.SnapshotsCut : Prop :=
  ∀ (s : State) (tag : U8) (depth start : U32), s.takes tag → s.line.places < 50 →
    let j := s.journal
    let st := s.store.settings
    let size := (j.extent + 1) * 512
    let oldest := max j.floor (j.next - size)
    let freeze := st.snapFreeze = true ∧ s.run.state ≠ .halted
    let d := max 1 (min (if depth = 0 then st.snapDepth else depth.toNat) size)
    let relative (d : Nat) (cause : SnapCause) : Snapshot :=
      { start := max oldest (j.next - d), stop := if oldest < j.next then some (j.next - 1) else none
        pointer := max oldest (j.next - d), lapped := 0, cause := cause }
    let absolute : Snapshot :=
      { start := max oldest start.toNat
        stop := if oldest < j.next ∧ max oldest start.toNat < j.next then
          some (min (max oldest start.toNat + d - 1) (j.next - 1)) else none
        pointer := max oldest start.toNat, lapped := 0, cause := .command }
    let cut (x : Snapshot) : State :=
      { s with
        journal := { j with snapshot := some x }
        run := { s.run with hold := if freeze then true else s.run.hold } }
    let data (x : Snapshot) (mark : Bool) : Bytes :=
      le 4 x.start ++ snapEnd x.stop ++ le 4 x.records ++ le 4 oldest ++ le 4 j.next ++ flag mark
    (freeze → s.run.hold = false) →
    exec (.snap tag 1 depth start 0) s = .next ((cut (relative d .command)).replied 0x20 tag
      (.accepted (data (relative d .command) (decide freeze)))) ∧
    exec (.snap tag 2 depth start 0) s = .next ((cut absolute).replied 0x20 tag (.accepted (data absolute (decide freeze)))) ∧
    (∀ kind, kind = 1 ∨ kind = 2 →
      (st.snapSync = false → exec (.snap tag kind depth start 1) s = .next (s.replied 0x20 tag (.refused .range))) ∧
      (st.snapSync = true → j.drive ≠ .idle → exec (.snap tag kind depth start 1) s = .next (s.replied 0x20 tag (.refused .busy))) ∧
      (st.snapSync = true → j.drive = .idle → exec (.snap tag kind depth start 1) s = .next
        ({ s with journal := { j with drive := .due } }.replied 0x20 tag (.accepted (List.replicate 22 0))))) ∧
    (st.snapSync = false → exec .snapLineFallingEdge s = .next s) ∧
    (st.snapSync = true →
      let x := relative (max 1 (min st.snapDepth size)) .snapLine
      exec .snapLineFallingEdge s = .next ((cut x).enqueue (snapshotTakenNotice x j.next s.run.clock (decide freeze))))

/-- DUMP READ gives up to 8 items from the pointer: each record's 32 bytes, or a LAPPED marker for one overwritten; it moves the
pointer by 8, or at the end of the range adds DUMP END and drops the snapshot; with none active it gives EMPTY. JOURNAL STATUS reports
(R130, R131, R132). Unvouched bytes, the SNAP level while it is not driven, the unlisted codes and the widths (log 8 to log 11), an
exhausted number sent as 0 (log 50), that level as 1 high and 0 low (log 53) and the eight bank results without a count (log 59) are
the model's. -/
def Obligations.DumpAndStatus : Prop :=
  ∀ (s : State) (tag : U8), s.takes tag →
    let j := s.journal
    (j.snapshot = none → exec (.dumpRead tag) s = .next (s.replied 0x21 tag (.accepted
      (1 :: ({ seq := j.next, time := s.run.clock, kind := .empty : JournalRecord } : JournalRecord).bytes)))) ∧
    (∀ (x : Snapshot) (rec : Nat → JournalRecord), j.snapshot = some x →
      let count := match x.stop with
        | none => 0
        | some e => min 8 (e + 1 - x.pointer)
      let numbers := (List.range count).map (x.pointer + ·)
      (∀ n ∈ numbers, j.oldest ≤ n →
        cellsRead (j.cellOf n) j.cells = some (rec n) ∧ j.bankResult (bankOfCell (j.cellOf n)) ≠ .fail) →
      let item (n : Nat) : Bytes :=
        if j.oldest ≤ n then (rec n).bytes
        else ({ seq := n, time := s.run.clock, kind := .lapped : JournalRecord } : JournalRecord).bytes
      let lapped := x.lapped + (numbers.filter fun n => decide (n < j.oldest)).length
      let last : JournalRecord := { seq := j.next, time := s.run.clock, kind := .dumpEnd, amount := x.start, tip := lapped }
      (count = 8 → exec (.dumpRead tag) s = .next
        ({ s with
            journal := { j with snapshot := some { x with pointer := x.pointer + 8, lapped := lapped } }
            freeCount := s.freeCount + 1 }.replied 0x21 tag (.accepted (8 :: (numbers.map item).flatten)))) ∧
      (count < 8 → exec (.dumpRead tag) s = .next
        ({ s with
            journal := { j with snapshot := none }
            freeCount := s.freeCount + 1 }.replied 0x21 tag
          (.accepted (le 1 (count + 1) ++ (numbers.map item).flatten ++ last.bytes))))) ∧
    exec (.journalStatus tag) s = .next
      ({ s with freeCount := s.freeCount + 1 }.replied 0x22 tag (.accepted
        ([j.testCode] ++ j.results.toList.map BankResult.code ++ le 4 j.base ++ le 4 j.extent ++ le 4 ((j.extent + 1) * 512) ++
          le 4 j.next ++ flag (decide (4294967296 ≤ j.next)) ++ le 4 j.oldest ++
          (match j.snapshot with
            | none => List.replicate 15 0
            | some x => [1, x.cause.code] ++ le 4 x.start ++ snapEnd x.stop ++ le 4 x.pointer) ++
          [j.drive.code] ++ flag (j.drive != SyncDrive.driving && !Config.snapHeldLow s.freeCount))))

/-- BANK_TEST gives the lowest UNTESTED bank its result; a failed bank raises JOURNAL BANK FAIL, of source JOURNAL and with no frame. The
test of the last bank then raises a STORE WRITE FAIL of the power-on settings write that waits, of source STORE: it captures the SEVERE
record when no bank failed and sets the flag otherwise (R117, R153, R154, R164). That a bank test with none UNTESTED changes nothing (log
3) and that the raise waits for the end of the test (log 66) are the model's. -/
def Obligations.BankTested : Prop :=
  ∀ (s : State) (pass : Bool), s.powered = true →
    ((∀ b : Fin 8, s.journal.results[b] ≠ .untested) → exec (.bankTest pass) s = .next s) ∧
    (∀ b : Fin 8, s.journal.results[b] = .untested → (∀ a : Fin 8, a < b → s.journal.results[a] ≠ .untested) →
      let last := s.faults.writeFailWaits = true ∧ ∀ a : Fin 8, a ≠ b → s.journal.results[a] ≠ .untested
      let tested (r : BankResult) : State := { s with journal := { s.journal with results := s.journal.results.set b r } }
      let done : State := if pass then tested .pass else (tested .fail).faulted .journalBankFail .journal []
      (pass = false → s.admits .journalBankFail) →
      (¬last → exec (.bankTest pass) s = .next done) ∧
      (last → done.admits .storeWriteFail → exec (.bankTest pass) s = .next
        (State.faulted { done with faults := { done.faults with writeFailWaits := false } } .storeWriteFail .store [])))

/-! ### Fault Capture -/

/-- A raise: a masked code does nothing; a class that holds a record takes only its further-fault flag; else the record is captured,
and its notice is queued where FAULT NOTIFY is on and the queue admits it, else NOTICE OVERRUN is raised; a SEVERE raise moves SERVING
to IDLE with its record. FAULT INJECT raises a code so while INJECT ENABLE is on, of source INJECT and with the first bytes of its own
frame, and is refused STATE while it is off (R138, R153 to R156, R162, R163, R171). The codes of the reply are free (log 10), as is its
place beside a FAULT notice (log 5); the class it gives of a masked code is the model's reading (log 32). -/
def Obligations.RaiseJudged : Prop :=
  (∀ (s : State) (code : FaultCode) (source : FaultSource) (bytes : Bytes),
    let cls := (s.faults.rule code).cls
    let held := s.faults.classState cls
    let record : FaultRecord :=
      { code := code, source := source, bytes := bytes.take 8 ++ List.replicate (8 - bytes.length) 0, time := s.run.clock }
    let captured : State := { s with faults := s.faults.setClass cls { record := some record, further := false } }
    let reported (t : State) : State :=
      if cls = .severe ∧ t.run.state = .serving then
        { t with
          run := { t.run with state := .idle }
          journal := t.journal.append t.run.clock { kind := .runState, flags := 0x26 } }
      else t
    ((s.faults.rule code).masked = true → s.raise code source bytes = s) ∧
    ((s.faults.rule code).masked = false → held.record.isSome = true →
      s.raise code source bytes =
        reported { s with faults := s.faults.setClass cls { record := held.record, further := true } }) ∧
    ((s.faults.rule code).masked = false → held.record = none →
      (s.store.settings.notify cls = false → s.raise code source bytes = reported captured) ∧
      (s.store.settings.notify cls = true → s.line.places < 56 → s.raise code source bytes =
        reported { captured with line := { s.line with queue := s.line.queue ++ [faultNotice cls record] } }) ∧
      (s.store.settings.notify cls = true → 56 ≤ s.line.places → s.raise code source bytes =
        reported (captured.raise .noticeOverrun .serverLine (faultNotice cls record).bytes)))) ∧
  (∀ (s : State) (tag : U8), s.takes tag →
    (s.store.settings.injectEnable = false → ∀ b, exec (.faultInject tag b) s = .next (s.replied 0x2F tag (.refused .state))) ∧
    (s.store.settings.injectEnable = true →
      (∀ b : U8, (b = 0 ∨ 18 < b.toNat) → exec (.faultInject tag b) s = .next (s.replied 0x2F tag (.refused .range))) ∧
      (∀ c : FaultCode, s.owe.admits c →
        let rule := s.faults.rule c
        let data : Bytes :=
          if rule.masked then [Config.unlistedCode .injectMasked, 0]
          else if (s.faults.classState rule.cls).record.isSome then [Config.unlistedCode .injectFlagged, rule.cls.code]
          else [Config.unlistedCode .injectCaptured, rule.cls.code]
        ∃ t : State, exec (.faultInject tag c.number) s = .next t ∧
          answeredFrom s (s.owe.faulted c .inject ((HostCommand.faultInject c.number).frame tag)) t
            ((Reply.accepted data).frame 0x2F tag))))

/-- FAULT MASK sets the mask and the class of a code, for every raise after it, and changes no other code and no record; FAULT CLEAR
empties the class it names and reports what it held (R158, R161, R180). The code of the FAULT MASK reply in 1 byte is the model's
reading (log 11). -/
def Obligations.FaultCommandsTaken : Prop :=
  ∀ (s : State) (tag : U8), s.takes tag →
    (∀ c : FaultClass, exec (.faultClear tag c.code) s = .next
      ({ s with faults := s.faults.setClass c { record := none, further := false } }.replied 0x2D tag
        (.accepted ((s.faults.classState c).bytes c)))) ∧
    (∀ b : U8, (b = 0 ∨ 3 < b.toNat) → exec (.faultClear tag b) s = .next (s.replied 0x2D tag (.refused .range))) ∧
    (∀ (c : FaultCode) (k : FaultClass) (mask : U8), mask.toNat ≤ 1 → exec (.faultMask tag c.number mask k.code) s = .next
      ({ s with faults := { s.faults with
          codes := s.faults.codes.set c.index { masked := mask == 1, cls := k } } }.replied 0x2E tag
        (.accepted [c.number, mask, k.code]))) ∧
    (∀ b mask k : U8, (b = 0 ∨ 18 < b.toNat ∨ 1 < mask.toNat ∨ k = 0 ∨ 3 < k.toNat) →
      exec (.faultMask tag b mask k) s = .next (s.replied 0x2E tag (.refused .range)))

/-! ### Run Control -/

/-- SET RUN: the state already held is accepted; out of HALTED it waits for the bank test and the setting writes, then passes or fails
the configuration check; into HALTED it needs every check, tender and forward entry gone, and ends every probe early with PROBE
RESULT; each change writes RUN STATE. A failed check raises CONFIG CHECK FAIL with the first bytes of this SET RUN, of source JOURNAL for
a failed bank and SERVER LINE where no line is enabled (R113, R121, R135, R136, R137, R153, R154). The cause codes are free (log 10), as
is the place of the reply beside a notice (log 5); the bank of a CONFIG FAULT in 1 byte (log 11), the PROBE RESULTs in slot order (log 19)
and the new state in every reply (log 64) are the model's readings. -/
def Obligations.SetRunMoves : Prop :=
  ∀ (s : State) (tag : U8), s.takes tag →
    let moved (new : RunState) : State :=
      { s with
        run := { s.run with state := new }
        journal := s.journal.append s.run.clock { kind := .runState, flags := s.run.state.code + new.code * 4 + 16 } }
    let answers (new : RunState) (t : State) (r : Reply) : Prop :=
      exec (.setRun tag new.code) s = .next (t.replied 0x24 tag r)
    let lowest (b : Nat) : Prop :=
      (∃ i, i ≤ s.journal.extent ∧ (s.journal.base + i) % 8 = b ∧ s.journal.bankResult b = .fail) ∧
        ∀ i, i ≤ s.journal.extent → (s.journal.base + i) % 8 < b → s.journal.bankResult ((s.journal.base + i) % 8) ≠ .fail
    let tested := (∀ b : Fin 8, s.journal.results[b] ≠ .untested) ∧ s.store.settingListed = false
    let noneFailed := ∀ i, i ≤ s.journal.extent → s.journal.bankResult ((s.journal.base + i) % 8) ≠ .fail
    (∀ b : U8, 2 < b.toNat → exec (.setRun tag b) s = .next (s.replied 0x24 tag (.refused .range))) ∧
    answers s.run.state s (.accepted [s.run.state.code]) ∧
    (s.run.state = .idle → answers .serving (moved .serving) (.accepted [2])) ∧
    (s.run.state = .serving → answers .idle (moved .idle) (.accepted [1])) ∧
    (∀ new : RunState, s.run.state = .halted → new ≠ .halted →
      (¬tested → answers new s (.refused .busy)) ∧
      (tested → noneFailed → (∃ n, n < 4 ∧ s.store.settings.lineEnabled n = true) →
        answers new (moved new) (.accepted [new.code])) ∧
      (tested → s.owe.admits .configCheckFail →
        let fails (source : FaultSource) (data : Bytes) : Prop :=
          ∃ t : State, exec (.setRun tag new.code) s = .next t ∧
            answeredFrom s (s.owe.faulted .configCheckFail source ((HostCommand.setRun new.code).frame tag)) t
              ((Reply.refusedWith .configFault data).frame 0x24 tag)
        (∀ b, lowest b → fails .journal (Config.unlistedCode .causeFailedBank :: le 1 b)) ∧
        (noneFailed → (∀ n, n < 4 → s.store.settings.lineEnabled n = false) →
          fails .serverLine [Config.unlistedCode .causeNoLine, 0]))) ∧
    (s.run.state ≠ .halted →
      ((s.checks ≠ [] ∨ s.tenders.pool ≠ [] ∨ s.uplink.queue ≠ []) → answers .halted s (.refused .busy)) ∧
      (s.checks = [] → s.tenders.pool = [] → s.uplink.queue = [] → (∀ (i : Slot) (m : RouteMode), (s.slot i).mode ≠ .probe m) →
        answers .halted (moved .halted) (.accepted [0])) ∧
      (s.checks = [] → s.tenders.pool = [] → s.uplink.queue = [] →
        let results := ((List.finRange 64).filter fun i => (s.slot i).probing).map fun i => probeResultNotice i (s.slot i) true
        results ≠ [] → s.line.places + results.length < 56 →
        ∃ t : State, exec (.setRun tag 0) s = .next t ∧
          t = { moved .halted with
            radio := { s.radio with slots := t.radio.slots }
            line := { s.line with queue := t.line.queue }
            freeCount := s.freeCount + 1 } ∧
          repliedAmong s.line.queue results ((Reply.accepted [0]).frame 0x24 tag) t.line.queue ∧
          ∀ i : Slot, t.slot i = match (s.slot i).mode with
            | .probe m => { s.slot i with mode := .routed m, armed := false, sentNow := none, echoDue := none }
            | .routed _ => s.slot i))

/-- INTAKE HOLD sets the hold, TIME SET the clock with each AWAITING tender's seconds left kept (where none is overdue), CLOCK_STEP
counts to the clock's top and not while the part is in reset (R60, R121, R140, R141, R142). That INTAKE HOLD is tested for HALTED
before its value (log 57) and that a tender due only because the clock stands at its top keeps the seconds to its expiry time (log 31)
are the model's readings. -/
def Obligations.HoldAndClock : Prop :=
  ∀ (s : State) (tag : U8),
    (s.takes tag →
      (∀ v : U8, s.run.state = .halted → exec (.intakeHold tag v) s = .next (s.replied 0x25 tag (.refused .state))) ∧
      (∀ v : U8, s.run.state ≠ .halted → 1 < v.toNat → exec (.intakeHold tag v) s = .next (s.replied 0x25 tag (.refused .range))) ∧
      (∀ v : U8, s.run.state ≠ .halted → v.toNat ≤ 1 → exec (.intakeHold tag v) s = .next
        ({ s with run := { s.run with hold := v == 1 } }.replied 0x25 tag (.accepted [v]))) ∧
      (∀ clock : U32, 4000000000 < clock.toNat → exec (.timeSet tag clock) s = .next (s.replied 0x26 tag (.refused .range))) ∧
      (∀ clock : U32, clock.toNat ≤ 4000000000 → (∀ t ∈ s.tenders.pool, t.state = .awaiting → s.run.clock ≤ t.expiry) →
        exec (.timeSet tag clock) s = .next
        (State.replied
          { s with
            run := { s.run with clock := clock.toNat, clockSet := true }
            tenders := { s.tenders with pool := s.tenders.pool.map fun t =>
              if t.state = .awaiting then { t with expiry := clock.toNat + (t.expiry - s.run.clock) } else t }
            journal := s.journal.append clock.toNat { kind := .timeSet, amount := s.run.clock } }
          0x26 tag (.accepted (le 4 s.run.clock ++ le 4 clock.toNat))))) ∧
    (s.live = true → s.run.clock < 4294967295 →
      exec .clockStep s = .next { s with run := { s.run with clock := s.run.clock + 1 } }) ∧
    (s.live = true → s.run.clock = 4294967295 → exec .clockStep s = .next s) ∧ (s.live = false → exec .clockStep s = .next s)

/-- SHIFT CLOSE under the intake hold, with no tender in the pool and no close list, writes SHIFT CLOSED with the grand totals, sets
the totals of each slot with postings to 0, answers, and offers the close list while fewer than 48 places are taken; else it is
refused BUSY. FRAME_SENT takes the oldest frame off the queue and offers the list again (R173, R182, R183). That STX holds the frame
sent (log 28) and that FRAME_SENT from an empty queue changes nothing (log 3) are the model's choices. -/
def Obligations.ShiftClosed : Prop :=
  ∀ (s : State) (tag : U8),
    let count := (s.radio.slots.toList.map SlotEntry.postedCount).sum
    let share := (s.radio.slots.toList.map SlotEntry.shareTotal).sum
    let tip := (s.radio.slots.toList.map SlotEntry.tipTotal).sum
    let entries := ((List.finRange 64).filter fun i => decide (0 < (s.slot i).postedCount)).map fun i =>
      { slot := i.val, terminalId := (s.slot i).terminalId, count := (s.slot i).postedCount, share := (s.slot i).shareTotal,
        tip := (s.slot i).tipTotal : CloseEntry }
    let notices (k : Nat) (l : List CloseEntry) : List Frame := (l.take k).map shiftTotalsNotice
    (s.takes tag → (s.run.hold = false ∨ s.tenders.pool ≠ [] ∨ s.run.closeList ≠ []) →
      exec (.shiftClose tag) s = .next (s.replied 0x31 tag (.refused .busy))) ∧
    (s.takes tag → s.run.hold = true → s.tenders.pool = [] → s.run.closeList = [] →
      let k := min entries.length (48 - (s.line.places + 1))
      let reply := Reply.accepted (le 4 entries.length ++ (highLow count ++ highLow share ++ highLow tip))
      ∃ t : State, exec (.shiftClose tag) s = .next t ∧
        t = { s with
          journal := s.journal.append s.run.clock {
            kind := .shiftClosed, amount := share % 4294967296, check := share / 4294967296, tip := tip % 4294967296
            tender := tip / 4294967296, receipt := min 4294967295 count }
          radio := { s.radio with slots := t.radio.slots }
          run := { s.run with closeList := entries.drop k }
          line := { s.line with queue := s.line.queue ++ [reply.frame 0x31 tag] ++ notices k entries } } ∧
        ∀ i : Slot, t.slot i =
          if 0 < (s.slot i).postedCount then { s.slot i with postedCount := 0, shareTotal := 0, tipTotal := 0 } else s.slot i) ∧
    (∀ (f : Frame) (rest : List Frame), s.live = true → s.line.queue = f :: rest →
      let k := min s.run.closeList.length (48 - (rest.length + s.line.owed))
      exec .frameSent s = .next
        { s with
          line := { s.line with queue := rest ++ notices k s.run.closeList, sent := some f }
          run := { s.run with closeList := s.run.closeList.drop k } }) ∧
    (s.live = false ∨ s.line.queue = [] → exec .frameSent s = .next s)

/-! ### Power and reset -/

/-- A line reset, by RESET or by the RESET# pin: what is kept (the supply, the last tender id, the next forward number, the forward
entries that were stored, the free backlog, the journal's records and span, the settings, the write in progress), what goes, and
RESTART with its counts, written at the end of a pin reset. An edge that waits right behind a RESET fell at its moment, and the RESET
takes it with it, or comes later (R43, R45, R85, R87, R93, R122, R133, R149, R150, R151, R173). The oldest number of the backlog is
handed to the emptied list at once and a STORE WRITE FAIL of a power-on settings write that waits is discarded by the model's readings
(log 26, log 66); an edge that the level of the pin or the supply makes idle (log 3,
log 36), the moment of an edge that waits right behind a RESET (log 49) and what a reset keeps of STX and RSF (log 28) are the model's
too. -/
def Obligations.LineResets : Prop :=
  ∀ (s : State) (tag : U8),
    let storing := s.uplink.queue.filter fun e => e.state == ForwardState.storing
    let owed := if s.store.owesReply then 1 else 0
    let reset (cause : ResetCause) : State :=
      { s with
        line := { ServerLine.start with owed := owed, sent := s.line.sent }
        checks := []
        tenders := { pool := [], closed := [], lastId := s.tenders.lastId }
        uplink := { s.uplink with
          state := .down, setBy := .reset, count := 0
          queue := (s.uplink.queue.filter fun e => e.state != ForwardState.storing).map fun e => { e with state := .unsent }
          exposure := s.uplink.exposure - (storing.map ForwardEntry.requested).sum }
        radio := { slots := Vector.replicate 64 SlotEntry.start, fill := FillRecord.start, fillDue := false, strobes := s.radio.strobes }
        journal := { s.journal with snapshot := none, drive := .idle }
        run := {
          state := .halted, hold := false, clock := 0, clockSet := false, lastReset := some cause, closeList := [] }
        store := match s.uplink.backlog, s.store.current with
          | [], _ => { s.store with waiting := [] }
          | n :: _, none =>
            { s.store with
              waiting := []
              current := some {
                request := .free n
                unit := match roomOf s.store.rooms n with
                  | some room => .room room (.empty (some s.uplink.nextForward))
                  | none => .nothing } }
          | n :: _, some w => { s.store with waiting := if w.request.isFree then [] else [.free n] }
        faults := .start }
    let restart (cause : ResetCause) (checks tenders storing : Nat) : JournalRecord :=
      { kind := .restart, flags := cause.code, amount := checks, tip := tenders, receipt := storing }
    let byCommand : State :=
      { reset .command with
        journal := ({ s.journal with snapshot := none, drive := .idle } : Journal).append 0
          (restart .command s.checks.length s.tenders.pool.length storing.length)
        line := { ServerLine.start with
          owed := owed, sent := s.line.sent, queue := [(Reply.accepted []).frame 0x2A tag] } }
    let byPin : State := { reset .pin with pinLow := true, hold := .line s.checks.length s.tenders.pool.length storing.length }
    let edgeNext := s.pinLow = false ∧ s.pending.head? = some .resetPinFall
    (s.takes tag →
      (¬edgeNext → exec (.reset tag) s = .next byCommand) ∧
      (edgeNext →
        exec (.reset tag) s = .next { byCommand with freeCount := s.freeCount + 1 } ∨
        exec (.reset tag) s = .next { byCommand with pinLow := true, hold := .command, freeCount := s.freeCount + 1 })) ∧
    (s.pinLow = true → exec .resetPinFall s = .next s) ∧
    (s.pinLow = false → s.live = true → exec .resetPinFall s = .next byPin) ∧
    (s.pinLow = false → s.live = false → exec .resetPinFall s = .next { s with pinLow := true }) ∧
    (s.hold = .none → exec .resetPinRise s = .next { s with pinLow := false }) ∧
    ((s.hold = .powerOn ∨ s.hold = .command) → exec .resetPinRise s = .next { s with pinLow := false, hold := .none }) ∧
    (∀ c t f, s.hold = .line c t f → exec .resetPinRise s = .next
      { s with
        pinLow := false, hold := .none
        journal := s.journal.append s.run.clock (restart .pin c t f) })

/-- Power-on takes the settings of the whole copy with the higher write count, of the only whole copy, or the defaults; the stored
forward entries in number order as UNSENT, their exposure, and the highest next number carried, raised past every entry; a damaged
room is given back. Each unit that fails its checksum raises STORE ENTRY BAD. EXPOSURE CAP is raised to the exposure; that, or no
whole copy, places a setting write. A loss of power keeps only the store, with the unit of a write it met as it was, damaged, or whole
as written (R88, R115, R143, R145, R152, R153, R155, R164). The model's own are: what the store holds at first (log 1), that a loss of
power without power changes nothing (log 3), a discarded room (log 7), where the loss of power meets the write (log 20), equal write
counts (log 27), that no frame has been sent and no strobe is marked at power-on (log 28), that a power-on with the pin low leaves the
part held (log 36), the rest of the state without power (log 40) and the further-fault bit of the notice (log 58). -/
def Obligations.PowerOnAndLoss : Prop :=
  (∀ s : State,
    let rooms := s.store.rooms.toList
    let stored := rooms.filterMap fun r => match r with
      | .copy e _ => some { e with state := ForwardState.unsent }
      | .empty _ | .damaged => none
    let carried := rooms.filterMap fun r => match r with
      | .copy _ n => some n
      | .empty n => n
      | .damaged => none
    let exposure := (stored.map ForwardEntry.requested).sum
    let loaded : Settings := match s.store.first, s.store.second with
      | some a, some b => if a.count < b.count then b.settings else a.settings
      | some a, none => a.settings
      | none, some b => b.settings
      | none, none => {}
    let settings := { loaded with exposureCap := max loaded.exposureCap exposure }
    let write : StoreUnit := match s.store.first, s.store.second with
      | some a, some b =>
        .settings (decide (a.count ≤ b.count)) { count := max a.count b.count + 1, settings := settings }
      | some a, none => .settings false { count := a.count + 1, settings := settings }
      | none, some b => .settings true { count := b.count + 1, settings := settings }
      | none, none => .settings true { count := 1, settings := settings }
    let writes := (s.store.first = none ∧ s.store.second = none) ∨ loaded.exposureCap < exposure
    let bad := (rooms.filter fun r => r == .damaged).length + [s.store.first, s.store.second].count none
    let record : FaultRecord := { code := .storeEntryBad, source := .store, bytes := List.replicate 8 0, time := 0 }
    ∃ t : State, exec .powerOn s = .next t ∧
      t = { s with
        powered := true, hold := if s.pinLow then .powerOn else .none
        line := { ServerLine.start with
          queue := if 0 < bad ∧ settings.notifyNote = true then [faultNotice .note record] else [] }
        checks := []
        tenders := TenderPool.start
        uplink := { Uplink.start with
          queue := t.uplink.queue, exposure := exposure
          nextForward := (stored.map (fun e : ForwardEntry => e.number + 1) ++ carried).foldl max 1 }
        radio := Radio.start, journal := Journal.start settings.journalBase settings.journalExtent, run := RunControl.start
        store := { s.store with
          settings := settings, waiting := []
          rooms := s.store.rooms.map fun r => if r = .damaged then .empty none else r
          current := if writes then some { request := .powerOnSettings, unit := write } else none }
        faults := { FaultCapture.start with
          note := { record := if 0 < bad then some record else none, further := decide (1 < bad) } } } ∧
      t.uplink.queue.Perm stored ∧ (t.uplink.queue.map ForwardEntry.number).Pairwise (· ≤ ·)) ∧
  (∀ (s : State) (cut : PowerCut), s.powered = false → exec (.lossOfPower cut) s = .next s) ∧
  (∀ (s : State) (cut : PowerCut), s.powered = true →
    let gone (store : SettingStore) : State :=
      { s with
        powered := false, hold := .none, line := ServerLine.start, checks := [], tenders := TenderPool.start
        uplink := Uplink.start, radio := Radio.start, journal := Journal.start 0 7, run := RunControl.start
        store := { store with settings := {}, waiting := [], current := none }
        faults := FaultCapture.start }
    let leaves (store : SettingStore) : Prop := exec (.lossOfPower cut) s = .next (gone store)
    ((s.store.current = none ∨ cut = .before) → leaves s.store) ∧
    (∀ (w : WriteInProgress), s.store.current = some w →
      (w.unit = .nothing → leaves s.store) ∧
      (∀ copy, w.unit = .settings true copy →
        (cut = .damaged → leaves { s.store with first := none }) ∧ (cut = .after → leaves { s.store with first := some copy })) ∧
      (∀ copy, w.unit = .settings false copy →
        (cut = .damaged → leaves { s.store with second := none }) ∧ (cut = .after → leaves { s.store with second := some copy })) ∧
      (∀ room content, w.unit = .room room content →
        (cut = .damaged → leaves { s.store with rooms := s.store.rooms.set room .damaged }) ∧
        (cut = .after → leaves { s.store with rooms := s.store.rooms.set room content }))))

/-! ### The server line -/

/-- The framer on a byte in each of its states, with HOST FRAME LENGTH and HOST FRAME CRC for bad frames; the gap timer's expiry ends a
frame with HOST FRAME GAP. A record that one of the three captures has source SERVER LINE and the first 8 bytes received of the frame,
filled with zero bytes. While the part is off or in reset the line is dead (R151, R153, R154, R166, R167). That a gap expiry with the
timer stopped changes nothing is the model's choice (log 3). -/
def Obligations.FramerTakesBytes : Prop :=
  ∀ (s : State) (b : U8),
    let l := s.line
    let rx := l.rx ++ [b]
    let length := leValue ((rx.drop 1).take 2)
    let on (l' : ServerLine) : State := { s with line := l' }
    let hunt : ServerLine := { l with framer := .hunt, rx := [], gapRunning := false }
    (s.live = false → exec (.serverByte b) s = .next s ∧ exec .gapTimerExpiry s = .next s) ∧
    (s.live = true →
      (l.framer = .hunt → exec (.serverByte b) s = .next
        (if b = 0xA5 then on { l with framer := .length, rx := [0xA5], gapRunning := true } else s)) ∧
      (l.framer = .length → l.rx.length = 1 → exec (.serverByte b) s = .next (on { l with rx := rx })) ∧
      (l.framer = .length → l.rx.length = 2 → 2 ≤ length → length ≤ 1026 →
        exec (.serverByte b) s = .next (on { l with rx := rx, framer := .collect })) ∧
      (l.framer = .length → l.rx.length = 2 → (length < 2 ∨ 1026 < length) → s.admits .hostFrameLength →
        let resumed : ServerLine :=
          if l.rx[1]? = some 0xA5 then { l with framer := .length, rx := [0xA5, b], gapRunning := true }
          else if b = 0xA5 then { l with framer := .length, rx := [0xA5], gapRunning := true }
          else hunt
        exec (.serverByte b) s = .next ((on resumed).faulted .hostFrameLength .serverLine rx)) ∧
      (l.framer = .collect → 3 ≤ rx.length → rx.length < length + 5 → exec (.serverByte b) s = .next (on { l with rx := rx })) ∧
      (l.framer = .collect → 3 ≤ rx.length → length + 5 ≤ rx.length → frameCrcGood rx = false → s.admits .hostFrameCrc →
        exec (.serverByte b) s = .next ((on hunt).faulted .hostFrameCrc .serverLine rx)) ∧
      (l.framer = .held → exec (.serverByte b) s = .next s) ∧
      (l.gapRunning = false → exec .gapTimerExpiry s = .next s) ∧
      (l.gapRunning = true → s.admits .hostFrameGap →
        exec .gapTimerExpiry s = .next ((on hunt).faulted .hostFrameGap .serverLine l.rx)))

/-- A command's row: discarded while the part is off or in reset and while a command is held; held when all 64 places are taken, and
run as its row when HELD_COMMAND_DISPATCH finds a place; refused FORMAT for tag 0, a body of another length than its kind requires, or a
bad approval code, held or not. A held frame of an unknown kind is answered UNKNOWN KIND with its fault, of source SERVER LINE and with
the first bytes of that frame (R151, R154, R168, R171, R172). That a row stands for a whole good frame (log 4) and that
HELD_COMMAND_DISPATCH with none held or no free place changes nothing (log 3) are the model's; the place of the reply beside a FAULT
notice is free (log 5). -/
def Obligations.HostRowsTaken : Prop :=
  (∀ (i : Instr) (tag : U8) (c : HostCommand) (s : State), hostRowOf i = some (tag, c) →
    (s.live = false ∨ s.line.framer = .held → exec i s = .next s) ∧
    (s.live = true → s.line.framer ≠ .held →
      (64 ≤ s.line.places → exec i s = .next
        { s with line := { s.line with held := some (c.frame tag), framer := .held, rx := [], gapRunning := false } }) ∧
      (s.line.places < 64 → (tag = 0 ∨ c.wf = false ∨ c.badCode = true) →
        exec i s = .next (s.replied c.kind tag (.refused .format)))) ∧
    (s.live = true → s.line.held = some (c.frame tag) → s.line.places < 64 → c.wf = true → c.body.length ≤ 1024 →
      exec .heldCommandDispatch s = exec i { s with line := { s.line with held := none, framer := .hunt } })) ∧
  (∀ s : State, (s.line.held = none ∨ s.live = false ∨ 64 ≤ s.line.places) → exec .heldCommandDispatch s = .next s) ∧
  (∀ (s : State) (f : Bytes), s.live = true → s.line.held = some f → s.line.places < 64 → knownKind (byteAt f 3) = false →
    let taken : State := { s with line := { s.line with held := none, framer := .hunt, owed := s.line.owed + 1 } }
    taken.admits .unknownKind →
    ∃ t : State, exec .heldCommandDispatch s = .next t ∧
      answeredFrom s (taken.faulted .unknownKind .serverLine f) t
        { kind := 0xBF, tag := byteAt f 4, body := [3, 17, byteAt f 3] }) ∧
  (∀ (s : State) (f : Bytes), s.live = true → s.line.held = some f → s.line.places < 64 → knownKind (byteAt f 3) = true →
    (byteAt f 4 = 0 ∨ readCommand (byteAt f 3) (frameBody f) = none) →
    exec .heldCommandDispatch s = .next
      (State.replied { s with line := { s.line with held := none, framer := .hunt } } (byteAt f 3) (byteAt f 4) (.refused .format)))
end

