-- ==== Sys2Proof/Laws/State.lean ====
section
/-! SUPPORT. One lemma per field per update of State: what each `State.set…` leaves in every field. -/

namespace Sys2Proof.Machine

variable (s : State)

@[simp] theorem State.setHold_powered (x : ResetHold) : (s.setHold x).powered = s.powered := rfl
@[simp] theorem State.setHold_pinLow (x : ResetHold) : (s.setHold x).pinLow = s.pinLow := rfl
@[simp] theorem State.setHold_hold (x : ResetHold) : (s.setHold x).hold = x := rfl
@[simp] theorem State.setHold_line (x : ResetHold) : (s.setHold x).line = s.line := rfl
@[simp] theorem State.setHold_checks (x : ResetHold) : (s.setHold x).checks = s.checks := rfl
@[simp] theorem State.setHold_tenders (x : ResetHold) : (s.setHold x).tenders = s.tenders := rfl
@[simp] theorem State.setHold_uplink (x : ResetHold) : (s.setHold x).uplink = s.uplink := rfl
@[simp] theorem State.setHold_radio (x : ResetHold) : (s.setHold x).radio = s.radio := rfl
@[simp] theorem State.setHold_journal (x : ResetHold) : (s.setHold x).journal = s.journal := rfl
@[simp] theorem State.setHold_run (x : ResetHold) : (s.setHold x).run = s.run := rfl
@[simp] theorem State.setHold_store (x : ResetHold) : (s.setHold x).store = s.store := rfl
@[simp] theorem State.setHold_faults (x : ResetHold) : (s.setHold x).faults = s.faults := rfl
@[simp] theorem State.setHold_freeCount (x : ResetHold) : (s.setHold x).freeCount = s.freeCount := rfl
@[simp] theorem State.setHold_pending (x : ResetHold) : (s.setHold x).pending = s.pending := rfl

@[simp] theorem State.setLine_powered (x : ServerLine) : (s.setLine x).powered = s.powered := rfl
@[simp] theorem State.setLine_pinLow (x : ServerLine) : (s.setLine x).pinLow = s.pinLow := rfl
@[simp] theorem State.setLine_hold (x : ServerLine) : (s.setLine x).hold = s.hold := rfl
@[simp] theorem State.setLine_line (x : ServerLine) : (s.setLine x).line = x := rfl
@[simp] theorem State.setLine_checks (x : ServerLine) : (s.setLine x).checks = s.checks := rfl
@[simp] theorem State.setLine_tenders (x : ServerLine) : (s.setLine x).tenders = s.tenders := rfl
@[simp] theorem State.setLine_uplink (x : ServerLine) : (s.setLine x).uplink = s.uplink := rfl
@[simp] theorem State.setLine_radio (x : ServerLine) : (s.setLine x).radio = s.radio := rfl
@[simp] theorem State.setLine_journal (x : ServerLine) : (s.setLine x).journal = s.journal := rfl
@[simp] theorem State.setLine_run (x : ServerLine) : (s.setLine x).run = s.run := rfl
@[simp] theorem State.setLine_store (x : ServerLine) : (s.setLine x).store = s.store := rfl
@[simp] theorem State.setLine_faults (x : ServerLine) : (s.setLine x).faults = s.faults := rfl
@[simp] theorem State.setLine_freeCount (x : ServerLine) : (s.setLine x).freeCount = s.freeCount := rfl
@[simp] theorem State.setLine_pending (x : ServerLine) : (s.setLine x).pending = s.pending := rfl

@[simp] theorem State.setChecks_powered (x : List Check) : (s.setChecks x).powered = s.powered := rfl
@[simp] theorem State.setChecks_pinLow (x : List Check) : (s.setChecks x).pinLow = s.pinLow := rfl
@[simp] theorem State.setChecks_hold (x : List Check) : (s.setChecks x).hold = s.hold := rfl
@[simp] theorem State.setChecks_line (x : List Check) : (s.setChecks x).line = s.line := rfl
@[simp] theorem State.setChecks_checks (x : List Check) : (s.setChecks x).checks = x := rfl
@[simp] theorem State.setChecks_tenders (x : List Check) : (s.setChecks x).tenders = s.tenders := rfl
@[simp] theorem State.setChecks_uplink (x : List Check) : (s.setChecks x).uplink = s.uplink := rfl
@[simp] theorem State.setChecks_radio (x : List Check) : (s.setChecks x).radio = s.radio := rfl
@[simp] theorem State.setChecks_journal (x : List Check) : (s.setChecks x).journal = s.journal := rfl
@[simp] theorem State.setChecks_run (x : List Check) : (s.setChecks x).run = s.run := rfl
@[simp] theorem State.setChecks_store (x : List Check) : (s.setChecks x).store = s.store := rfl
@[simp] theorem State.setChecks_faults (x : List Check) : (s.setChecks x).faults = s.faults := rfl
@[simp] theorem State.setChecks_freeCount (x : List Check) : (s.setChecks x).freeCount = s.freeCount := rfl
@[simp] theorem State.setChecks_pending (x : List Check) : (s.setChecks x).pending = s.pending := rfl

@[simp] theorem State.setTenders_powered (x : TenderPool) : (s.setTenders x).powered = s.powered := rfl
@[simp] theorem State.setTenders_pinLow (x : TenderPool) : (s.setTenders x).pinLow = s.pinLow := rfl
@[simp] theorem State.setTenders_hold (x : TenderPool) : (s.setTenders x).hold = s.hold := rfl
@[simp] theorem State.setTenders_line (x : TenderPool) : (s.setTenders x).line = s.line := rfl
@[simp] theorem State.setTenders_checks (x : TenderPool) : (s.setTenders x).checks = s.checks := rfl
@[simp] theorem State.setTenders_tenders (x : TenderPool) : (s.setTenders x).tenders = x := rfl
@[simp] theorem State.setTenders_uplink (x : TenderPool) : (s.setTenders x).uplink = s.uplink := rfl
@[simp] theorem State.setTenders_radio (x : TenderPool) : (s.setTenders x).radio = s.radio := rfl
@[simp] theorem State.setTenders_journal (x : TenderPool) : (s.setTenders x).journal = s.journal := rfl
@[simp] theorem State.setTenders_run (x : TenderPool) : (s.setTenders x).run = s.run := rfl
@[simp] theorem State.setTenders_store (x : TenderPool) : (s.setTenders x).store = s.store := rfl
@[simp] theorem State.setTenders_faults (x : TenderPool) : (s.setTenders x).faults = s.faults := rfl
@[simp] theorem State.setTenders_freeCount (x : TenderPool) : (s.setTenders x).freeCount = s.freeCount := rfl
@[simp] theorem State.setTenders_pending (x : TenderPool) : (s.setTenders x).pending = s.pending := rfl

@[simp] theorem State.setUplink_powered (x : Uplink) : (s.setUplink x).powered = s.powered := rfl
@[simp] theorem State.setUplink_pinLow (x : Uplink) : (s.setUplink x).pinLow = s.pinLow := rfl
@[simp] theorem State.setUplink_hold (x : Uplink) : (s.setUplink x).hold = s.hold := rfl
@[simp] theorem State.setUplink_line (x : Uplink) : (s.setUplink x).line = s.line := rfl
@[simp] theorem State.setUplink_checks (x : Uplink) : (s.setUplink x).checks = s.checks := rfl
@[simp] theorem State.setUplink_tenders (x : Uplink) : (s.setUplink x).tenders = s.tenders := rfl
@[simp] theorem State.setUplink_uplink (x : Uplink) : (s.setUplink x).uplink = x := rfl
@[simp] theorem State.setUplink_radio (x : Uplink) : (s.setUplink x).radio = s.radio := rfl
@[simp] theorem State.setUplink_journal (x : Uplink) : (s.setUplink x).journal = s.journal := rfl
@[simp] theorem State.setUplink_run (x : Uplink) : (s.setUplink x).run = s.run := rfl
@[simp] theorem State.setUplink_store (x : Uplink) : (s.setUplink x).store = s.store := rfl
@[simp] theorem State.setUplink_faults (x : Uplink) : (s.setUplink x).faults = s.faults := rfl
@[simp] theorem State.setUplink_freeCount (x : Uplink) : (s.setUplink x).freeCount = s.freeCount := rfl
@[simp] theorem State.setUplink_pending (x : Uplink) : (s.setUplink x).pending = s.pending := rfl

@[simp] theorem State.setRadio_powered (x : Radio) : (s.setRadio x).powered = s.powered := rfl
@[simp] theorem State.setRadio_pinLow (x : Radio) : (s.setRadio x).pinLow = s.pinLow := rfl
@[simp] theorem State.setRadio_hold (x : Radio) : (s.setRadio x).hold = s.hold := rfl
@[simp] theorem State.setRadio_line (x : Radio) : (s.setRadio x).line = s.line := rfl
@[simp] theorem State.setRadio_checks (x : Radio) : (s.setRadio x).checks = s.checks := rfl
@[simp] theorem State.setRadio_tenders (x : Radio) : (s.setRadio x).tenders = s.tenders := rfl
@[simp] theorem State.setRadio_uplink (x : Radio) : (s.setRadio x).uplink = s.uplink := rfl
@[simp] theorem State.setRadio_radio (x : Radio) : (s.setRadio x).radio = x := rfl
@[simp] theorem State.setRadio_journal (x : Radio) : (s.setRadio x).journal = s.journal := rfl
@[simp] theorem State.setRadio_run (x : Radio) : (s.setRadio x).run = s.run := rfl
@[simp] theorem State.setRadio_store (x : Radio) : (s.setRadio x).store = s.store := rfl
@[simp] theorem State.setRadio_faults (x : Radio) : (s.setRadio x).faults = s.faults := rfl
@[simp] theorem State.setRadio_freeCount (x : Radio) : (s.setRadio x).freeCount = s.freeCount := rfl
@[simp] theorem State.setRadio_pending (x : Radio) : (s.setRadio x).pending = s.pending := rfl

@[simp] theorem State.setJournal_powered (x : Journal) : (s.setJournal x).powered = s.powered := rfl
@[simp] theorem State.setJournal_pinLow (x : Journal) : (s.setJournal x).pinLow = s.pinLow := rfl
@[simp] theorem State.setJournal_hold (x : Journal) : (s.setJournal x).hold = s.hold := rfl
@[simp] theorem State.setJournal_line (x : Journal) : (s.setJournal x).line = s.line := rfl
@[simp] theorem State.setJournal_checks (x : Journal) : (s.setJournal x).checks = s.checks := rfl
@[simp] theorem State.setJournal_tenders (x : Journal) : (s.setJournal x).tenders = s.tenders := rfl
@[simp] theorem State.setJournal_uplink (x : Journal) : (s.setJournal x).uplink = s.uplink := rfl
@[simp] theorem State.setJournal_radio (x : Journal) : (s.setJournal x).radio = s.radio := rfl
@[simp] theorem State.setJournal_journal (x : Journal) : (s.setJournal x).journal = x := rfl
@[simp] theorem State.setJournal_run (x : Journal) : (s.setJournal x).run = s.run := rfl
@[simp] theorem State.setJournal_store (x : Journal) : (s.setJournal x).store = s.store := rfl
@[simp] theorem State.setJournal_faults (x : Journal) : (s.setJournal x).faults = s.faults := rfl
@[simp] theorem State.setJournal_freeCount (x : Journal) : (s.setJournal x).freeCount = s.freeCount := rfl
@[simp] theorem State.setJournal_pending (x : Journal) : (s.setJournal x).pending = s.pending := rfl

@[simp] theorem State.setRun_powered (x : RunControl) : (s.setRun x).powered = s.powered := rfl
@[simp] theorem State.setRun_pinLow (x : RunControl) : (s.setRun x).pinLow = s.pinLow := rfl
@[simp] theorem State.setRun_hold (x : RunControl) : (s.setRun x).hold = s.hold := rfl
@[simp] theorem State.setRun_line (x : RunControl) : (s.setRun x).line = s.line := rfl
@[simp] theorem State.setRun_checks (x : RunControl) : (s.setRun x).checks = s.checks := rfl
@[simp] theorem State.setRun_tenders (x : RunControl) : (s.setRun x).tenders = s.tenders := rfl
@[simp] theorem State.setRun_uplink (x : RunControl) : (s.setRun x).uplink = s.uplink := rfl
@[simp] theorem State.setRun_radio (x : RunControl) : (s.setRun x).radio = s.radio := rfl
@[simp] theorem State.setRun_journal (x : RunControl) : (s.setRun x).journal = s.journal := rfl
@[simp] theorem State.setRun_run (x : RunControl) : (s.setRun x).run = x := rfl
@[simp] theorem State.setRun_store (x : RunControl) : (s.setRun x).store = s.store := rfl
@[simp] theorem State.setRun_faults (x : RunControl) : (s.setRun x).faults = s.faults := rfl
@[simp] theorem State.setRun_freeCount (x : RunControl) : (s.setRun x).freeCount = s.freeCount := rfl
@[simp] theorem State.setRun_pending (x : RunControl) : (s.setRun x).pending = s.pending := rfl

@[simp] theorem State.setStore_powered (x : SettingStore) : (s.setStore x).powered = s.powered := rfl
@[simp] theorem State.setStore_pinLow (x : SettingStore) : (s.setStore x).pinLow = s.pinLow := rfl
@[simp] theorem State.setStore_hold (x : SettingStore) : (s.setStore x).hold = s.hold := rfl
@[simp] theorem State.setStore_line (x : SettingStore) : (s.setStore x).line = s.line := rfl
@[simp] theorem State.setStore_checks (x : SettingStore) : (s.setStore x).checks = s.checks := rfl
@[simp] theorem State.setStore_tenders (x : SettingStore) : (s.setStore x).tenders = s.tenders := rfl
@[simp] theorem State.setStore_uplink (x : SettingStore) : (s.setStore x).uplink = s.uplink := rfl
@[simp] theorem State.setStore_radio (x : SettingStore) : (s.setStore x).radio = s.radio := rfl
@[simp] theorem State.setStore_journal (x : SettingStore) : (s.setStore x).journal = s.journal := rfl
@[simp] theorem State.setStore_run (x : SettingStore) : (s.setStore x).run = s.run := rfl
@[simp] theorem State.setStore_store (x : SettingStore) : (s.setStore x).store = x := rfl
@[simp] theorem State.setStore_faults (x : SettingStore) : (s.setStore x).faults = s.faults := rfl
@[simp] theorem State.setStore_freeCount (x : SettingStore) : (s.setStore x).freeCount = s.freeCount := rfl
@[simp] theorem State.setStore_pending (x : SettingStore) : (s.setStore x).pending = s.pending := rfl

@[simp] theorem State.setFaults_powered (x : FaultCapture) : (s.setFaults x).powered = s.powered := rfl
@[simp] theorem State.setFaults_pinLow (x : FaultCapture) : (s.setFaults x).pinLow = s.pinLow := rfl
@[simp] theorem State.setFaults_hold (x : FaultCapture) : (s.setFaults x).hold = s.hold := rfl
@[simp] theorem State.setFaults_line (x : FaultCapture) : (s.setFaults x).line = s.line := rfl
@[simp] theorem State.setFaults_checks (x : FaultCapture) : (s.setFaults x).checks = s.checks := rfl
@[simp] theorem State.setFaults_tenders (x : FaultCapture) : (s.setFaults x).tenders = s.tenders := rfl
@[simp] theorem State.setFaults_uplink (x : FaultCapture) : (s.setFaults x).uplink = s.uplink := rfl
@[simp] theorem State.setFaults_radio (x : FaultCapture) : (s.setFaults x).radio = s.radio := rfl
@[simp] theorem State.setFaults_journal (x : FaultCapture) : (s.setFaults x).journal = s.journal := rfl
@[simp] theorem State.setFaults_run (x : FaultCapture) : (s.setFaults x).run = s.run := rfl
@[simp] theorem State.setFaults_store (x : FaultCapture) : (s.setFaults x).store = s.store := rfl
@[simp] theorem State.setFaults_faults (x : FaultCapture) : (s.setFaults x).faults = x := rfl
@[simp] theorem State.setFaults_freeCount (x : FaultCapture) : (s.setFaults x).freeCount = s.freeCount := rfl
@[simp] theorem State.setFaults_pending (x : FaultCapture) : (s.setFaults x).pending = s.pending := rfl

@[simp] theorem State.setFree_powered (x : Nat) : (s.setFree x).powered = s.powered := rfl
@[simp] theorem State.setFree_pinLow (x : Nat) : (s.setFree x).pinLow = s.pinLow := rfl
@[simp] theorem State.setFree_hold (x : Nat) : (s.setFree x).hold = s.hold := rfl
@[simp] theorem State.setFree_line (x : Nat) : (s.setFree x).line = s.line := rfl
@[simp] theorem State.setFree_checks (x : Nat) : (s.setFree x).checks = s.checks := rfl
@[simp] theorem State.setFree_tenders (x : Nat) : (s.setFree x).tenders = s.tenders := rfl
@[simp] theorem State.setFree_uplink (x : Nat) : (s.setFree x).uplink = s.uplink := rfl
@[simp] theorem State.setFree_radio (x : Nat) : (s.setFree x).radio = s.radio := rfl
@[simp] theorem State.setFree_journal (x : Nat) : (s.setFree x).journal = s.journal := rfl
@[simp] theorem State.setFree_run (x : Nat) : (s.setFree x).run = s.run := rfl
@[simp] theorem State.setFree_store (x : Nat) : (s.setFree x).store = s.store := rfl
@[simp] theorem State.setFree_faults (x : Nat) : (s.setFree x).faults = s.faults := rfl
@[simp] theorem State.setFree_freeCount (x : Nat) : (s.setFree x).freeCount = x := rfl
@[simp] theorem State.setFree_pending (x : Nat) : (s.setFree x).pending = s.pending := rfl

@[simp] theorem State.setPending_powered (x : List Instr) : (s.setPending x).powered = s.powered := rfl
@[simp] theorem State.setPending_pinLow (x : List Instr) : (s.setPending x).pinLow = s.pinLow := rfl
@[simp] theorem State.setPending_hold (x : List Instr) : (s.setPending x).hold = s.hold := rfl
@[simp] theorem State.setPending_line (x : List Instr) : (s.setPending x).line = s.line := rfl
@[simp] theorem State.setPending_checks (x : List Instr) : (s.setPending x).checks = s.checks := rfl
@[simp] theorem State.setPending_tenders (x : List Instr) : (s.setPending x).tenders = s.tenders := rfl
@[simp] theorem State.setPending_uplink (x : List Instr) : (s.setPending x).uplink = s.uplink := rfl
@[simp] theorem State.setPending_radio (x : List Instr) : (s.setPending x).radio = s.radio := rfl
@[simp] theorem State.setPending_journal (x : List Instr) : (s.setPending x).journal = s.journal := rfl
@[simp] theorem State.setPending_run (x : List Instr) : (s.setPending x).run = s.run := rfl
@[simp] theorem State.setPending_store (x : List Instr) : (s.setPending x).store = s.store := rfl
@[simp] theorem State.setPending_faults (x : List Instr) : (s.setPending x).faults = s.faults := rfl
@[simp] theorem State.setPending_freeCount (x : List Instr) : (s.setPending x).freeCount = s.freeCount := rfl
@[simp] theorem State.setPending_pending (x : List Instr) : (s.setPending x).pending = x := rfl

end Sys2Proof.Machine
end

