-- ==== Sys2Proof/Laws/Ops.lean ====
section
/-! SUPPORT. The small named operations over State, field by field, and what replacing one slot entry or one check leaves. -/

namespace Sys2Proof.Machine

open Sys2Proof

variable (s : State)

/-! ### A record appended, a frame queued, a place owed, a slot or a check or a tender replaced -/

@[simp] theorem State.appendRecord_powered (r : JournalRecord) : (s.appendRecord r).powered = s.powered := rfl
@[simp] theorem State.appendRecord_pinLow (r : JournalRecord) : (s.appendRecord r).pinLow = s.pinLow := rfl
@[simp] theorem State.appendRecord_hold (r : JournalRecord) : (s.appendRecord r).hold = s.hold := rfl
@[simp] theorem State.appendRecord_line (r : JournalRecord) : (s.appendRecord r).line = s.line := rfl
@[simp] theorem State.appendRecord_checks (r : JournalRecord) : (s.appendRecord r).checks = s.checks := rfl
@[simp] theorem State.appendRecord_tenders (r : JournalRecord) : (s.appendRecord r).tenders = s.tenders := rfl
@[simp] theorem State.appendRecord_uplink (r : JournalRecord) : (s.appendRecord r).uplink = s.uplink := rfl
@[simp] theorem State.appendRecord_radio (r : JournalRecord) : (s.appendRecord r).radio = s.radio := rfl
@[simp] theorem State.appendRecord_journal (r : JournalRecord) : (s.appendRecord r).journal = s.journal.append s.run.clock r := rfl
@[simp] theorem State.appendRecord_run (r : JournalRecord) : (s.appendRecord r).run = s.run := rfl
@[simp] theorem State.appendRecord_store (r : JournalRecord) : (s.appendRecord r).store = s.store := rfl
@[simp] theorem State.appendRecord_faults (r : JournalRecord) : (s.appendRecord r).faults = s.faults := rfl
@[simp] theorem State.appendRecord_freeCount (r : JournalRecord) : (s.appendRecord r).freeCount = s.freeCount := rfl
@[simp] theorem State.appendRecord_pending (r : JournalRecord) : (s.appendRecord r).pending = s.pending := rfl

@[simp] theorem State.enqueue_powered (f : Frame) : (s.enqueue f).powered = s.powered := rfl
@[simp] theorem State.enqueue_pinLow (f : Frame) : (s.enqueue f).pinLow = s.pinLow := rfl
@[simp] theorem State.enqueue_hold (f : Frame) : (s.enqueue f).hold = s.hold := rfl
@[simp] theorem State.enqueue_line (f : Frame) : (s.enqueue f).line = { s.line with queue := s.line.queue ++ [f] } := rfl
@[simp] theorem State.enqueue_checks (f : Frame) : (s.enqueue f).checks = s.checks := rfl
@[simp] theorem State.enqueue_tenders (f : Frame) : (s.enqueue f).tenders = s.tenders := rfl
@[simp] theorem State.enqueue_uplink (f : Frame) : (s.enqueue f).uplink = s.uplink := rfl
@[simp] theorem State.enqueue_radio (f : Frame) : (s.enqueue f).radio = s.radio := rfl
@[simp] theorem State.enqueue_journal (f : Frame) : (s.enqueue f).journal = s.journal := rfl
@[simp] theorem State.enqueue_run (f : Frame) : (s.enqueue f).run = s.run := rfl
@[simp] theorem State.enqueue_store (f : Frame) : (s.enqueue f).store = s.store := rfl
@[simp] theorem State.enqueue_faults (f : Frame) : (s.enqueue f).faults = s.faults := rfl
@[simp] theorem State.enqueue_freeCount (f : Frame) : (s.enqueue f).freeCount = s.freeCount := rfl
@[simp] theorem State.enqueue_pending (f : Frame) : (s.enqueue f).pending = s.pending := rfl

@[simp] theorem State.owe_powered : (s.owe).powered = s.powered := rfl
@[simp] theorem State.owe_pinLow : (s.owe).pinLow = s.pinLow := rfl
@[simp] theorem State.owe_hold : (s.owe).hold = s.hold := rfl
@[simp] theorem State.owe_line : (s.owe).line = { s.line with owed := s.line.owed + 1 } := rfl
@[simp] theorem State.owe_checks : (s.owe).checks = s.checks := rfl
@[simp] theorem State.owe_tenders : (s.owe).tenders = s.tenders := rfl
@[simp] theorem State.owe_uplink : (s.owe).uplink = s.uplink := rfl
@[simp] theorem State.owe_radio : (s.owe).radio = s.radio := rfl
@[simp] theorem State.owe_journal : (s.owe).journal = s.journal := rfl
@[simp] theorem State.owe_run : (s.owe).run = s.run := rfl
@[simp] theorem State.owe_store : (s.owe).store = s.store := rfl
@[simp] theorem State.owe_faults : (s.owe).faults = s.faults := rfl
@[simp] theorem State.owe_freeCount : (s.owe).freeCount = s.freeCount := rfl
@[simp] theorem State.owe_pending : (s.owe).pending = s.pending := rfl

@[simp] theorem State.putSlot_powered (i : Slot) (e : SlotEntry) : (s.putSlot i e).powered = s.powered := rfl
@[simp] theorem State.putSlot_pinLow (i : Slot) (e : SlotEntry) : (s.putSlot i e).pinLow = s.pinLow := rfl
@[simp] theorem State.putSlot_hold (i : Slot) (e : SlotEntry) : (s.putSlot i e).hold = s.hold := rfl
@[simp] theorem State.putSlot_line (i : Slot) (e : SlotEntry) : (s.putSlot i e).line = s.line := rfl
@[simp] theorem State.putSlot_checks (i : Slot) (e : SlotEntry) : (s.putSlot i e).checks = s.checks := rfl
@[simp] theorem State.putSlot_tenders (i : Slot) (e : SlotEntry) : (s.putSlot i e).tenders = s.tenders := rfl
@[simp] theorem State.putSlot_uplink (i : Slot) (e : SlotEntry) : (s.putSlot i e).uplink = s.uplink := rfl
@[simp] theorem State.putSlot_radio (i : Slot) (e : SlotEntry) : (s.putSlot i e).radio =
    { s.radio with slots := s.radio.slots.set i e } := rfl
@[simp] theorem State.putSlot_journal (i : Slot) (e : SlotEntry) : (s.putSlot i e).journal = s.journal := rfl
@[simp] theorem State.putSlot_run (i : Slot) (e : SlotEntry) : (s.putSlot i e).run = s.run := rfl
@[simp] theorem State.putSlot_store (i : Slot) (e : SlotEntry) : (s.putSlot i e).store = s.store := rfl
@[simp] theorem State.putSlot_faults (i : Slot) (e : SlotEntry) : (s.putSlot i e).faults = s.faults := rfl
@[simp] theorem State.putSlot_freeCount (i : Slot) (e : SlotEntry) : (s.putSlot i e).freeCount = s.freeCount := rfl
@[simp] theorem State.putSlot_pending (i : Slot) (e : SlotEntry) : (s.putSlot i e).pending = s.pending := rfl

@[simp] theorem State.withSlot_powered (i : Slot) (e : SlotEntry) : (s.withSlot i e).powered = s.powered := rfl
@[simp] theorem State.withSlot_pinLow (i : Slot) (e : SlotEntry) : (s.withSlot i e).pinLow = s.pinLow := rfl
@[simp] theorem State.withSlot_hold (i : Slot) (e : SlotEntry) : (s.withSlot i e).hold = s.hold := rfl
@[simp] theorem State.withSlot_line (i : Slot) (e : SlotEntry) : (s.withSlot i e).line = s.line := rfl
@[simp] theorem State.withSlot_checks (i : Slot) (e : SlotEntry) : (s.withSlot i e).checks = s.checks := rfl
@[simp] theorem State.withSlot_tenders (i : Slot) (e : SlotEntry) : (s.withSlot i e).tenders = s.tenders := rfl
@[simp] theorem State.withSlot_uplink (i : Slot) (e : SlotEntry) : (s.withSlot i e).uplink = s.uplink := rfl
@[simp] theorem State.withSlot_radio (i : Slot) (e : SlotEntry) : (s.withSlot i e).radio =
    { s.radio with slots := s.radio.slots.set i e } := rfl
@[simp] theorem State.withSlot_journal (i : Slot) (e : SlotEntry) : (s.withSlot i e).journal = s.journal := rfl
@[simp] theorem State.withSlot_run (i : Slot) (e : SlotEntry) : (s.withSlot i e).run = s.run := rfl
@[simp] theorem State.withSlot_store (i : Slot) (e : SlotEntry) : (s.withSlot i e).store = s.store := rfl
@[simp] theorem State.withSlot_faults (i : Slot) (e : SlotEntry) : (s.withSlot i e).faults = s.faults := rfl
@[simp] theorem State.withSlot_freeCount (i : Slot) (e : SlotEntry) : (s.withSlot i e).freeCount = s.freeCount := rfl
@[simp] theorem State.withSlot_pending (i : Slot) (e : SlotEntry) : (s.withSlot i e).pending = s.pending := rfl

@[simp] theorem State.putCheck_powered (c : Check) : (s.putCheck c).powered = s.powered := rfl
@[simp] theorem State.putCheck_pinLow (c : Check) : (s.putCheck c).pinLow = s.pinLow := rfl
@[simp] theorem State.putCheck_hold (c : Check) : (s.putCheck c).hold = s.hold := rfl
@[simp] theorem State.putCheck_line (c : Check) : (s.putCheck c).line = s.line := rfl
@[simp] theorem State.putCheck_checks (c : Check) : (s.putCheck c).checks = Machine.putCheck s.checks c := rfl
@[simp] theorem State.putCheck_tenders (c : Check) : (s.putCheck c).tenders = s.tenders := rfl
@[simp] theorem State.putCheck_uplink (c : Check) : (s.putCheck c).uplink = s.uplink := rfl
@[simp] theorem State.putCheck_radio (c : Check) : (s.putCheck c).radio = s.radio := rfl
@[simp] theorem State.putCheck_journal (c : Check) : (s.putCheck c).journal = s.journal := rfl
@[simp] theorem State.putCheck_run (c : Check) : (s.putCheck c).run = s.run := rfl
@[simp] theorem State.putCheck_store (c : Check) : (s.putCheck c).store = s.store := rfl
@[simp] theorem State.putCheck_faults (c : Check) : (s.putCheck c).faults = s.faults := rfl
@[simp] theorem State.putCheck_freeCount (c : Check) : (s.putCheck c).freeCount = s.freeCount := rfl
@[simp] theorem State.putCheck_pending (c : Check) : (s.putCheck c).pending = s.pending := rfl

@[simp] theorem State.putTender_powered (t : Tender) : (s.putTender t).powered = s.powered := rfl
@[simp] theorem State.putTender_pinLow (t : Tender) : (s.putTender t).pinLow = s.pinLow := rfl
@[simp] theorem State.putTender_hold (t : Tender) : (s.putTender t).hold = s.hold := rfl
@[simp] theorem State.putTender_line (t : Tender) : (s.putTender t).line = s.line := rfl
@[simp] theorem State.putTender_checks (t : Tender) : (s.putTender t).checks = s.checks := rfl
@[simp] theorem State.putTender_tenders (t : Tender) : (s.putTender t).tenders =
    { s.tenders with pool := s.tenders.pool.map fun x => if x.id = t.id then t else x } := rfl
@[simp] theorem State.putTender_uplink (t : Tender) : (s.putTender t).uplink = s.uplink := rfl
@[simp] theorem State.putTender_radio (t : Tender) : (s.putTender t).radio = s.radio := rfl
@[simp] theorem State.putTender_journal (t : Tender) : (s.putTender t).journal = s.journal := rfl
@[simp] theorem State.putTender_run (t : Tender) : (s.putTender t).run = s.run := rfl
@[simp] theorem State.putTender_store (t : Tender) : (s.putTender t).store = s.store := rfl
@[simp] theorem State.putTender_faults (t : Tender) : (s.putTender t).faults = s.faults := rfl
@[simp] theorem State.putTender_freeCount (t : Tender) : (s.putTender t).freeCount = s.freeCount := rfl
@[simp] theorem State.putTender_pending (t : Tender) : (s.putTender t).pending = s.pending := rfl

@[simp] theorem State.writeLost_powered : (s.writeLost).powered = s.powered := rfl
@[simp] theorem State.writeLost_pinLow : (s.writeLost).pinLow = s.pinLow := rfl
@[simp] theorem State.writeLost_hold : (s.writeLost).hold = s.hold := rfl
@[simp] theorem State.writeLost_line : (s.writeLost).line = s.line := rfl
@[simp] theorem State.writeLost_checks : (s.writeLost).checks = s.checks := rfl
@[simp] theorem State.writeLost_tenders : (s.writeLost).tenders = s.tenders := rfl
@[simp] theorem State.writeLost_uplink : (s.writeLost).uplink = s.uplink := rfl
@[simp] theorem State.writeLost_radio : (s.writeLost).radio = s.radio := rfl
@[simp] theorem State.writeLost_journal : (s.writeLost).journal = s.journal := rfl
@[simp] theorem State.writeLost_run : (s.writeLost).run = s.run := rfl
@[simp] theorem State.writeLost_store : (s.writeLost).store = { s.store with current := none } := rfl
@[simp] theorem State.writeLost_faults : (s.writeLost).faults = s.faults := rfl
@[simp] theorem State.writeLost_freeCount : (s.writeLost).freeCount = s.freeCount := rfl
@[simp] theorem State.writeLost_pending : (s.writeLost).pending = s.pending := rfl

@[simp] theorem State.writeEnds_powered (w : WriteInProgress) : (s.writeEnds w).powered = s.powered := rfl
@[simp] theorem State.writeEnds_pinLow (w : WriteInProgress) : (s.writeEnds w).pinLow = s.pinLow := rfl
@[simp] theorem State.writeEnds_hold (w : WriteInProgress) : (s.writeEnds w).hold = s.hold := rfl
@[simp] theorem State.writeEnds_line (w : WriteInProgress) : (s.writeEnds w).line = s.line := rfl
@[simp] theorem State.writeEnds_checks (w : WriteInProgress) : (s.writeEnds w).checks = s.checks := rfl
@[simp] theorem State.writeEnds_tenders (w : WriteInProgress) : (s.writeEnds w).tenders = s.tenders := rfl
@[simp] theorem State.writeEnds_uplink (w : WriteInProgress) : (s.writeEnds w).uplink = s.uplink := rfl
@[simp] theorem State.writeEnds_radio (w : WriteInProgress) : (s.writeEnds w).radio = s.radio := rfl
@[simp] theorem State.writeEnds_journal (w : WriteInProgress) : (s.writeEnds w).journal = s.journal := rfl
@[simp] theorem State.writeEnds_run (w : WriteInProgress) : (s.writeEnds w).run = s.run := rfl
@[simp] theorem State.writeEnds_store (w : WriteInProgress) : (s.writeEnds w).store =
    { s.store with current := none }.write w.unit := rfl
@[simp] theorem State.writeEnds_faults (w : WriteInProgress) : (s.writeEnds w).faults = s.faults := rfl
@[simp] theorem State.writeEnds_freeCount (w : WriteInProgress) : (s.writeEnds w).freeCount = s.freeCount := rfl
@[simp] theorem State.writeEnds_pending (w : WriteInProgress) : (s.writeEnds w).pending = s.pending := rfl

@[simp] theorem State.writeDamages_powered (w : WriteInProgress) : (s.writeDamages w).powered = s.powered := rfl
@[simp] theorem State.writeDamages_pinLow (w : WriteInProgress) : (s.writeDamages w).pinLow = s.pinLow := rfl
@[simp] theorem State.writeDamages_hold (w : WriteInProgress) : (s.writeDamages w).hold = s.hold := rfl
@[simp] theorem State.writeDamages_line (w : WriteInProgress) : (s.writeDamages w).line = s.line := rfl
@[simp] theorem State.writeDamages_checks (w : WriteInProgress) : (s.writeDamages w).checks = s.checks := rfl
@[simp] theorem State.writeDamages_tenders (w : WriteInProgress) : (s.writeDamages w).tenders = s.tenders := rfl
@[simp] theorem State.writeDamages_uplink (w : WriteInProgress) : (s.writeDamages w).uplink = s.uplink := rfl
@[simp] theorem State.writeDamages_radio (w : WriteInProgress) : (s.writeDamages w).radio = s.radio := rfl
@[simp] theorem State.writeDamages_journal (w : WriteInProgress) : (s.writeDamages w).journal = s.journal := rfl
@[simp] theorem State.writeDamages_run (w : WriteInProgress) : (s.writeDamages w).run = s.run := rfl
@[simp] theorem State.writeDamages_store (w : WriteInProgress) : (s.writeDamages w).store =
    { s.store with current := none }.damage w.unit := rfl
@[simp] theorem State.writeDamages_faults (w : WriteInProgress) : (s.writeDamages w).faults = s.faults := rfl
@[simp] theorem State.writeDamages_freeCount (w : WriteInProgress) : (s.writeDamages w).freeCount = s.freeCount := rfl
@[simp] theorem State.writeDamages_pending (w : WriteInProgress) : (s.writeDamages w).pending = s.pending := rfl

/-! ### The slots and the checks these leave -/

@[simp] theorem State.setHold_slot (x : ResetHold) (j : Slot) : (s.setHold x).slot j = s.slot j := rfl
@[simp] theorem State.setLine_slot (x : ServerLine) (j : Slot) : (s.setLine x).slot j = s.slot j := rfl
@[simp] theorem State.setChecks_slot (x : List Check) (j : Slot) : (s.setChecks x).slot j = s.slot j := rfl
@[simp] theorem State.setTenders_slot (x : TenderPool) (j : Slot) : (s.setTenders x).slot j = s.slot j := rfl
@[simp] theorem State.setUplink_slot (x : Uplink) (j : Slot) : (s.setUplink x).slot j = s.slot j := rfl
@[simp] theorem State.setJournal_slot (x : Journal) (j : Slot) : (s.setJournal x).slot j = s.slot j := rfl
@[simp] theorem State.setRun_slot (x : RunControl) (j : Slot) : (s.setRun x).slot j = s.slot j := rfl
@[simp] theorem State.setStore_slot (x : SettingStore) (j : Slot) : (s.setStore x).slot j = s.slot j := rfl
@[simp] theorem State.setFaults_slot (x : FaultCapture) (j : Slot) : (s.setFaults x).slot j = s.slot j := rfl
@[simp] theorem State.setFree_slot (x : Nat) (j : Slot) : (s.setFree x).slot j = s.slot j := rfl
@[simp] theorem State.appendRecord_slot (r : JournalRecord) (j : Slot) : (s.appendRecord r).slot j = s.slot j := rfl
@[simp] theorem State.enqueue_slot (f : Frame) (j : Slot) : (s.enqueue f).slot j = s.slot j := rfl
@[simp] theorem State.owe_slot (j : Slot) : (s.owe).slot j = s.slot j := rfl
@[simp] theorem State.putCheck_slot (c : Check) (j : Slot) : (s.putCheck c).slot j = s.slot j := rfl
@[simp] theorem State.putTender_slot (t : Tender) (j : Slot) : (s.putTender t).slot j = s.slot j := rfl

@[simp] theorem State.setHold_check (x : ResetHold) (n : Nat) : (s.setHold x).check n = s.check n := rfl
@[simp] theorem State.setLine_check (x : ServerLine) (n : Nat) : (s.setLine x).check n = s.check n := rfl
@[simp] theorem State.setTenders_check (x : TenderPool) (n : Nat) : (s.setTenders x).check n = s.check n := rfl
@[simp] theorem State.setUplink_check (x : Uplink) (n : Nat) : (s.setUplink x).check n = s.check n := rfl
@[simp] theorem State.setJournal_check (x : Journal) (n : Nat) : (s.setJournal x).check n = s.check n := rfl
@[simp] theorem State.setRun_check (x : RunControl) (n : Nat) : (s.setRun x).check n = s.check n := rfl
@[simp] theorem State.setStore_check (x : SettingStore) (n : Nat) : (s.setStore x).check n = s.check n := rfl
@[simp] theorem State.setFaults_check (x : FaultCapture) (n : Nat) : (s.setFaults x).check n = s.check n := rfl
@[simp] theorem State.setFree_check (x : Nat) (n : Nat) : (s.setFree x).check n = s.check n := rfl
@[simp] theorem State.appendRecord_check (r : JournalRecord) (n : Nat) : (s.appendRecord r).check n = s.check n := rfl
@[simp] theorem State.enqueue_check (f : Frame) (n : Nat) : (s.enqueue f).check n = s.check n := rfl
@[simp] theorem State.owe_check (n : Nat) : (s.owe).check n = s.check n := rfl
@[simp] theorem State.putTender_check (t : Tender) (n : Nat) : (s.putTender t).check n = s.check n := rfl
@[simp] theorem State.setRadio_check (x : Radio) (n : Nat) : (s.setRadio x).check n = s.check n := rfl
@[simp] theorem State.putSlot_check (i : Slot) (e : SlotEntry) (n : Nat) : (s.putSlot i e).check n = s.check n := rfl
@[simp] theorem State.withSlot_check (i : Slot) (e : SlotEntry) (n : Nat) : (s.withSlot i e).check n = s.check n := rfl

theorem State.putSlot_eq_withSlot (i : Slot) (e : SlotEntry) : s.putSlot i e = s.withSlot i e := rfl

/-! ### Slots -/

@[simp] theorem State.slot_putSlot_same (i : Slot) (e : SlotEntry) : (s.putSlot i e).slot i = e := by
  simp [State.slot]

theorem State.slot_putSlot_ne {i j : Slot} (e : SlotEntry) (h : i ≠ j) : (s.putSlot i e).slot j = s.slot j := by
  simp only [State.slot, State.putSlot_radio, Fin.getElem_fin]
  exact Vector.getElem_set_ne _ _ (fun h' => h (Fin.ext h'))

/-- Every slot after one is replaced. -/
theorem State.slot_putSlot (i j : Slot) (e : SlotEntry) : (s.putSlot i e).slot j = if i = j then e else s.slot j := by
  by_cases h : i = j
  · subst h; simp
  · rw [if_neg h, State.slot_putSlot_ne s e h]

@[simp] theorem State.putSlot_self (i : Slot) : s.putSlot i (s.slot i) = s := by
  have h : s.radio.slots.set i s.radio.slots[i] = s.radio.slots := by
    ext j hj
    by_cases hji : i.val = j
    · subst hji; simp
    · rw [Vector.getElem_set_ne _ _ hji]
  simp only [State.putSlot, State.slot, State.setRadio, Fin.getElem_fin] at h ⊢
  rw [h]

@[simp] theorem State.putSlot_putSlot (i : Slot) (e e' : SlotEntry) : (s.putSlot i e).putSlot i e' = s.putSlot i e' := by
  simp [State.putSlot, State.setRadio]

@[simp] theorem State.withSlot_self (i : Slot) : s.withSlot i (s.slot i) = s := s.putSlot_self i

@[simp] theorem State.slot_withSlot_same (i : Slot) (e : SlotEntry) : (s.withSlot i e).slot i = e := s.slot_putSlot_same i e

theorem State.slot_of_radio {s t : State} (h : t.radio = s.radio) (i : Slot) : t.slot i = s.slot i := by
  simp [State.slot, h]

/-- Every slot after each was changed by one function. -/
theorem Radio.mapSlots_get (r : Radio) (f : SlotEntry → SlotEntry) (i : Slot) : (r.mapSlots f).slots[i] = f r.slots[i] := by
  simp [Radio.mapSlots]

/-! ### Checks -/

theorem findCheck_number {checks : List Check} {n : Nat} {c : Check} (h : findCheck checks n = some c) : c.number = n := by
  simpa using List.find?_some h

theorem findCheck_putCheck_same {checks : List Check} {c c' : Check} (h : findCheck checks c.number = some c') :
    findCheck (putCheck checks c) c.number = some c := by
  induction checks with
  | nil => simp [findCheck] at h
  | cons x rest ih =>
    simp only [findCheck, putCheck, List.map_cons, List.find?_cons] at h ih ⊢
    by_cases hx : x.number = c.number
    · simp [hx]
    · simp only [hx, if_false] at h ⊢
      have : (x.number == c.number) = false := by simpa using hx
      simp only [this] at h ⊢
      exact ih h

theorem findCheck_putCheck_ne {checks : List Check} {c : Check} {n : Nat} (h : n ≠ c.number) :
    findCheck (putCheck checks c) n = findCheck checks n := by
  induction checks with
  | nil => rfl
  | cons x rest ih =>
    simp only [findCheck, putCheck, List.map_cons, List.find?_cons] at ih ⊢
    by_cases hx : x.number = c.number
    · have h1 : (c.number == n) = false := by simpa using Ne.symm h
      simp only [hx, if_true, h1]
      simpa [hx] using ih
    · simp only [hx, if_false]
      cases x.number == n <;> simp [ih]

@[simp] theorem putCheck_putCheck {checks : List Check} {c c' : Check} (h : c.number = c'.number) :
    putCheck (putCheck checks c) c' = putCheck checks c' := by
  simp only [putCheck, List.map_map]
  apply List.map_congr_left
  intro x _
  simp only [Function.comp]
  split <;> simp_all

/-! ### What an offer below its limit and the store with nothing to do leave -/

theorem State.offer_room (f : Frame) (h : s.line.places < 56) : s.offer f = s.enqueue f := by
  simp [State.offer, Config.noticeLimit, h]

theorem State.pumpStore_idle (hw : s.store.current.isSome = true ∨ s.store.waiting = []) (hb : s.uplink.backlog = []) :
    s.pumpStore = s := by
  have hbegin : s.beginWrite = s := by
    unfold State.beginWrite
    split
    · rename_i h1 h2; simp [h1, h2] at hw
    · rfl
  simp [State.pumpStore, hbegin, State.handFree, hb]

/-! ### A command taken by its owner -/

theorem State.hostRow_takes {tag : U8} {c : HostCommand} (h : s.takes tag) (hw : c.wf = true) (hb : c.badCode = false) :
    s.hostRow tag c = runHost ((c.frame tag).take 8) tag c s := by
  obtain ⟨h1, h2, h3, h4⟩ := h
  have h5 : ¬ ((!s.live || s.line.framer == .held) = true) := by simp [h1, h2]
  have h6 : ¬ (tag = 0 ∨ c.wf = false ∨ c.badCode = true) := by
    rintro (h | h | h)
    · exact h4 h
    · simp [hw] at h
    · simp [hb] at h
  rw [State.hostRow, if_neg h5, if_pos h3, State.takeCommand, if_neg h6]

/-- An answer whose owner queued nothing: its reply is last in the queue. -/
theorem State.answer_quiet {t : State} {kind tag : U8} {d : State → State × Reply} {r : Reply} (h : d s.owe = (t.owe, r))
    (hl : t.line.queue.length ≤ s.line.queue.length) : s.answer kind tag d = t.replied kind tag r := by
  rw [State.answer, h, State.queueReply, if_pos (by simpa using hl)]
  rfl

end Sys2Proof.Machine
end

