-- ==== Sys2Proof/Laws/Journal.lean ====
section
/-! SUPPORT. The journal storage: a write is read back, leaves every other cell, and keeps the canonical form, which
State.reset has; the bank test and what its end lets through. -/

namespace Sys2Proof.Machine

open Sys2Proof

/-- A cell reads as what was last written to it. -/
theorem cellsRead_write_same (cell : Nat) (r : JournalRecord) (l : List (Nat × JournalRecord)) :
    cellsRead cell (cellsWrite cell r l) = some r := by
  induction l with
  | nil => simp [cellsWrite, cellsRead]
  | cons a rest ih =>
    rw [cellsWrite]
    split
    · simp [cellsRead]
    · split
      · simp [cellsRead]
      · rename_i h1 h2
        rw [cellsRead, if_neg (fun h => h2 h.symm), ih]

/-- A write leaves every other cell. -/
theorem cellsRead_write_ne {cell c : Nat} (r : JournalRecord) (h : c ≠ cell) (l : List (Nat × JournalRecord)) :
    cellsRead c (cellsWrite cell r l) = cellsRead c l := by
  induction l with
  | nil => simp [cellsWrite, cellsRead, h.symm]
  | cons a rest ih =>
    rw [cellsWrite]
    split
    · rw [cellsRead, if_neg (fun h' => h h'.symm)]
    · split
      · rename_i h1 h2
        rw [cellsRead, cellsRead, if_neg (fun h' => h h'.symm), if_neg (fun h' => h (by omega))]
      · rw [cellsRead, cellsRead, ih]

theorem cellsWf_cons {a : Nat × JournalRecord} {l : List (Nat × JournalRecord)} :
    cellsWf (a :: l) = true ↔ (∀ b ∈ l.head?, a.1 < b.1) ∧ cellsWf l = true := by
  cases l with
  | nil => simp [cellsWf]
  | cons b rest => simp [cellsWf]

theorem cellsWrite_head (cell : Nat) (r : JournalRecord) (l : List (Nat × JournalRecord)) :
    ∀ b ∈ (cellsWrite cell r l).head?, b.1 = cell ∨ ∃ a ∈ l.head?, b.1 = a.1 := by
  cases l with
  | nil => simp [cellsWrite]
  | cons a rest =>
    rw [cellsWrite]
    split
    · simp
    · split <;> simp

/-- A write keeps the form. -/
theorem cellsWrite_wf (cell : Nat) (r : JournalRecord) :
    ∀ (l : List (Nat × JournalRecord)), cellsWf l = true → cellsWf (cellsWrite cell r l) = true := by
  intro l
  induction l with
  | nil => intro _; rfl
  | cons a rest ih =>
    intro h
    rw [cellsWf_cons] at h
    rw [cellsWrite]
    split
    · rename_i h1
      rw [cellsWf_cons]
      refine ⟨by simp [h1], cellsWf_cons.mpr h⟩
    · split
      · rename_i h1 h2
        rw [cellsWf_cons]
        refine ⟨by simpa [h2] using h.1, h.2⟩
      · rename_i h1 h2
        rw [cellsWf_cons]
        refine ⟨?_, ih h.2⟩
        intro b hb
        rcases cellsWrite_head cell r rest b hb with hc | ⟨x, hx, hc⟩
        · omega
        · have := h.1 x hx; omega

/-- The bank test is RUNNING while some bank is UNTESTED (R117). -/
theorem Journal.testing_iff (j : Journal) : j.testing = true ↔ ∃ b : Fin 8, j.results[b] = .untested := by
  simp [Journal.testing, Journal.nextBank, List.find?_isSome]

theorem State.startingUp_iff (s : State) :
    s.startingUp = true ↔ (∃ b : Fin 8, s.journal.results[b] = .untested) ∧ s.run.lastReset = none := by
  rw [State.startingUp, Bool.and_eq_true, Journal.testing_iff, Option.isNone_iff_eq_none]

/-- What the end of the bank test leaves: nothing changed, or the STORE WRITE FAIL that waited raised (R164). -/
theorem State.startUpEnds_cases (s : State) :
    (s.faults.writeFailWaits = true ∧ (∀ b : Fin 8, s.journal.results[b] ≠ .untested) ∧
      s.startUpEnds = (s.setFaults { s.faults with writeFailWaits := false }).raise .storeWriteFail .store []) ∨
    ((s.faults.writeFailWaits = true → ∃ b : Fin 8, s.journal.results[b] = .untested) ∧ s.startUpEnds = s) := by
  by_cases h : (s.faults.writeFailWaits && !s.journal.testing) = true
  · have h' := h
    rw [Bool.and_eq_true, Bool.not_eq_true', Bool.eq_false_iff, ne_eq, Journal.testing_iff, not_exists] at h'
    exact .inl ⟨h'.1, h'.2, if_pos h⟩
  · refine .inr ⟨fun hw => ?_, if_neg h⟩
    rw [← Journal.testing_iff]
    simpa [hw] using h

/-- The reset storage has the form. -/
theorem reset_cellsWf : cellsWf State.reset.journal.cells = true := rfl

end Sys2Proof.Machine
end

