-- ==== Sys2Proof/Laws/Raise.lean ====
section
/-! SUPPORT. What raising a fault and offering a notice can do: the queue grows, fault classes change, SERVING may drop to IDLE
with its record, and nothing else; what a raise leaves, field by field, where its notice is admitted; and where a reply stands among the
notices of its event. -/

namespace Sys2Proof.Machine

open Sys2Proof

/-- The change a raise or an offer can make. -/
structure Reported (s t : State) : Prop where
  same : t = { s with
    line := { s.line with queue := t.line.queue }, faults := t.faults, run := { s.run with state := t.run.state }
    journal := { s.journal with cells := t.journal.cells, next := t.journal.next } }
  queue : s.line.queue <+: t.line.queue

theorem Reported.refl (s : State) : Reported s s := ⟨rfl, List.prefix_rfl⟩

theorem Reported.trans {s t u : State} (h : Reported s t) (h' : Reported t u) : Reported s u := by
  refine ⟨?_, h.queue.trans h'.queue⟩
  have e := h'.same
  rw [h.same] at e
  exact e

theorem Reported.line {s t : State} (h : Reported s t) : t.line = { s.line with queue := t.line.queue } := by
  have e := congrArg State.line h.same; exact e
theorem Reported.radio {s t : State} (h : Reported s t) : t.radio = s.radio := by
  have e := congrArg State.radio h.same; exact e
theorem Reported.checks {s t : State} (h : Reported s t) : t.checks = s.checks := by
  have e := congrArg State.checks h.same; exact e
theorem Reported.tenders {s t : State} (h : Reported s t) : t.tenders = s.tenders := by
  have e := congrArg State.tenders h.same; exact e
theorem Reported.uplink {s t : State} (h : Reported s t) : t.uplink = s.uplink := by
  have e := congrArg State.uplink h.same; exact e
theorem Reported.store {s t : State} (h : Reported s t) : t.store = s.store := by
  have e := congrArg State.store h.same; exact e
theorem Reported.journal {s t : State} (h : Reported s t) :
    t.journal = { s.journal with cells := t.journal.cells, next := t.journal.next } := by
  have e := congrArg State.journal h.same; exact e
theorem Reported.run {s t : State} (h : Reported s t) : t.run = { s.run with state := t.run.state } := by
  have e := congrArg State.run h.same; exact e
theorem Reported.slot {s t : State} (h : Reported s t) (i : Slot) : t.slot i = s.slot i := State.slot_of_radio h.radio i

theorem enqueue_reported (s : State) (f : Frame) : Reported s (s.enqueue f) := ⟨rfl, List.prefix_append ..⟩

theorem setFaults_reported (s : State) (f : FaultCapture) : Reported s (s.setFaults f) := ⟨rfl, List.prefix_rfl⟩

/-- A journal append changes the cells and the next number alone. -/
theorem Journal.append_frame (j : Journal) (clock : Nat) (r : JournalRecord) :
    j.append clock r = { j with cells := (j.append clock r).cells, next := (j.append clock r).next } := by
  unfold Journal.append
  split <;> rfl

theorem severeReport_reported (s : State) (cls : FaultClass) : Reported s (s.severeReport cls) := by
  unfold State.severeReport
  split
  · refine ⟨?_, List.prefix_rfl⟩
    have e := Journal.append_frame s.journal s.run.clock { kind := .runState, flags := runFlags s.run.state .idle .severeFault }
    simp only [State.changeRun, State.appendRecord, State.setJournal, State.setRun]
    rw [e]
  · exact Reported.refl s

theorem raiseWithin_reported (n : Nat) :
    ∀ (code : FaultCode) (source : FaultSource) (bytes : Bytes) (s : State), Reported s (raiseWithin n code source bytes s) := by
  induction n with
  | zero => intro _ _ _ s; exact Reported.refl s
  | succ n ih =>
    intro code source bytes s
    rw [raiseWithin]
    dsimp only
    split
    · exact Reported.refl s
    · split
      · exact (setFaults_reported s _).trans (severeReport_reported _ _)
      · refine Reported.trans ?_ (severeReport_reported _ _)
        split
        · split
          · exact (setFaults_reported s _).trans (enqueue_reported _ _)
          · exact (setFaults_reported s _).trans (ih _ _ _ _)
        · exact setFaults_reported s _

theorem raise_reported (s : State) (code : FaultCode) (source : FaultSource) (bytes : Bytes) :
    Reported s (s.raise code source bytes) := raiseWithin_reported 3 code source bytes s

theorem offer_reported (s : State) (f : Frame) : Reported s (s.offer f) := by
  unfold State.offer
  split
  · exact enqueue_reported s f
  · exact raise_reported ..

/-! ### A raise whose notice is admitted -/

section
variable (s : State) (code : FaultCode) (source : FaultSource) (bytes : Bytes)

@[simp] theorem State.faulted_powered : (s.faulted code source bytes).powered = s.powered := rfl
@[simp] theorem State.faulted_pinLow : (s.faulted code source bytes).pinLow = s.pinLow := rfl
@[simp] theorem State.faulted_hold : (s.faulted code source bytes).hold = s.hold := rfl
@[simp] theorem State.faulted_checks : (s.faulted code source bytes).checks = s.checks := rfl
@[simp] theorem State.faulted_tenders : (s.faulted code source bytes).tenders = s.tenders := rfl
@[simp] theorem State.faulted_uplink : (s.faulted code source bytes).uplink = s.uplink := rfl
@[simp] theorem State.faulted_radio : (s.faulted code source bytes).radio = s.radio := rfl
@[simp] theorem State.faulted_store : (s.faulted code source bytes).store = s.store := rfl
@[simp] theorem State.faulted_freeCount : (s.faulted code source bytes).freeCount = s.freeCount := rfl
@[simp] theorem State.faulted_pending : (s.faulted code source bytes).pending = s.pending := rfl
@[simp] theorem State.faulted_faults :
    (s.faulted code source bytes).faults = s.faults.judged code (s.firstFault code source bytes) := rfl
@[simp] theorem State.faulted_line :
    (s.faulted code source bytes).line = { s.line with queue := s.line.queue ++ s.faultNotices code source bytes } := rfl
@[simp] theorem State.faulted_clock : (s.faulted code source bytes).run.clock = s.run.clock := rfl
@[simp] theorem State.faulted_slot (i : Slot) : (s.faulted code source bytes).slot i = s.slot i := rfl
@[simp] theorem State.faulted_check (n : Nat) : (s.faulted code source bytes).check n = s.check n := rfl

/-- A raise queues one FAULT notice or none. -/
theorem State.faultNotices_length : (s.faultNotices code source bytes).length ≤ 1 := by
  unfold State.faultNotices
  dsimp only
  split <;> simp

/-- The record keeps the first 8 bytes alone. -/
theorem State.firstFault_take : s.firstFault code source (bytes.take 8) = s.firstFault code source bytes := by
  simp only [State.firstFault, List.take_take, List.length_take, min_self]
  congr 3
  omega

theorem State.faulted_take : s.faulted code source (bytes.take 8) = s.faulted code source bytes := by
  simp only [State.faulted, State.faultNotices, State.firstFault_take]

end

/-- A raise is judged by R153 to R156, its notice admitted. -/
theorem State.raise_faulted {s : State} {code : FaultCode} (source : FaultSource) (bytes : Bytes) (h : s.admits code) :
    s.raise code source bytes = s.faulted code source bytes := by
  have hr : ({ code := code, source := source, bytes := frameBytes bytes, time := s.run.clock } : FaultRecord) =
      s.firstFault code source bytes := rfl
  have hsevere : ∀ t : State, (s.faults.rule code).masked = false → t.run = s.run → t.journal = s.journal →
      t.severeReport (s.faults.rule code).cls = { t with
        run := { s.run with state := if s.faultDrops code then .idle else s.run.state }
        journal := if s.faultDrops code then s.journal.append s.run.clock { kind := .runState, flags := 0x26 } else s.journal } := by
    intro t hm h1 h2
    unfold State.severeReport
    rw [h1]
    by_cases h : (s.faults.rule code).cls = .severe ∧ s.run.state = .serving
    · rw [if_pos h, if_pos ⟨hm, h⟩, if_pos ⟨hm, h⟩]
      simp only [State.changeRun, State.appendRecord, State.setJournal, State.setRun, h1, h2, h.2]
      rfl
    · rw [if_neg h, if_neg (fun h' => h h'.2), if_neg (fun h' => h h'.2), ← h1, ← h2]
  unfold State.raise raiseWithin
  dsimp only
  rw [hr]
  by_cases hm : (s.faults.rule code).masked = true
  · have hm' : ¬(s.faults.rule code).masked = false := by simp [hm]
    have hc : ¬s.faults.captures code := fun h' => hm' h'.1
    have hd : ¬s.faultDrops code := fun h' => hm' h'.1
    simp [hm, hc, hd, State.faulted, FaultCapture.judged, State.faultNotices]
  · have hm' : (s.faults.rule code).masked = false := by simpa using hm
    rw [if_neg hm]
    split
    · rename_i r hc
      have hc' : ¬s.faults.captures code := fun h' => by have := h'.2; simp [hc] at this
      rw [hsevere _ hm' (by rfl) (by rfl)]
      simp [hm', hc, hc', State.faulted, FaultCapture.judged, State.faultNotices, State.setFaults]
    · rename_i hc
      have hc' : s.faults.captures code := ⟨hm', hc⟩
      by_cases hn : s.store.settings.notify (s.faults.rule code).cls = true
      · have hp : s.line.places < 56 := by
          rcases h with h | h | h
          · exact h
          · exact absurd hc' h
          · simp [hn] at h
        rw [if_pos (by exact hn), if_pos (by exact hp), hsevere _ hm' (by rfl) (by rfl)]
        simp [hm', hc, hn, State.faulted, FaultCapture.judged, State.faultNotices, State.setFaults, State.enqueue, State.setLine]
      · rw [if_neg (by exact hn), hsevere _ hm' (by rfl) (by rfl)]
        simp [hm', hc, hn, State.faulted, FaultCapture.judged, State.faultNotices, State.setFaults]

/-! ### The reply among the notices of its event -/

/-- The reply of an event whose work left `done`, its place among the notices of that work free (R169; log 5). -/
theorem State.queueReply_answeredFrom {s done : State} (f : Frame) (h : s.line.queue <+: done.line.queue) :
    answeredFrom s done (done.queueReply s.line.queue.length f) f := by
  obtain ⟨notices, hn⟩ := h
  have hd : done.line.queue.drop s.line.queue.length = notices := by simp [← hn]
  simp only [answeredFrom, hd]
  unfold State.queueReply
  split
  · rename_i hl
    have : notices = [] := by
      rw [← hn] at hl; simp at hl; exact hl
    subst this
    exact ⟨by simp [State.setLine], 0, by simp [State.setLine, ← hn]⟩
  · rename_i hl
    have : notices ≠ [] := by rintro rfl; simp [← hn] at hl
    refine ⟨by simp [State.setLine, State.setFree, this], Config.replyPlace done.freeCount % (notices.length + 1), ?_⟩
    simp only [State.setLine, State.setFree]
    rw [← hn]
    have : s.line.queue.length + notices.length - s.line.queue.length = notices.length := by omega
    rw [List.length_append, this, List.take_length_add_append, List.drop_length_add_append, List.append_assoc]

/-- An answered command: its owner's work with the reply owed, then the reply in its place (R169, R171; log 5). -/
theorem State.answer_answeredFrom {s done : State} {kind tag : U8} {d : State → State × Reply} {r : Reply} (h : d s.owe = (done, r))
    (hq : s.line.queue <+: done.line.queue) : answeredFrom s done (s.answer kind tag d) (r.frame kind tag) := by
  have := State.queueReply_answeredFrom (r.frame kind tag) hq
  simpa [State.answer, h] using this

end Sys2Proof.Machine
end

