-- ==== Sys2Proof/Laws/Radio.lean ====
section
/-! SUPPORT. The radio side: when a frame is heard, an item placed at a slot that is not MUTED, a presence change, a boundary
and a fill over the slots. -/

namespace Sys2Proof.Machine

open Sys2Proof

theorem slotOfByte_slotByte (i : Slot) : slotOfByte (slotByte i) = some i := by
  have : i.val % 256 = i.val := Nat.mod_eq_of_lt (by omega)
  simp [slotOfByte, slotByte, this]

theorem State.hears_iff {s : State} {i : Slot} : 
    s.hears i = true ↔ s.live = true ∧ s.slotEnabled i = true ∧ s.run.state ≠ .halted := by
  simp [State.hears, State.halted, and_assoc]

/-- A good frame of a quiet slot goes straight to its handler. -/
theorem State.uplinkTurn_quiet {s : State} {i : Slot} (m : UplinkMessage) (h : s.quietSlot i) (hg : m.good = true) :
    s.uplinkTurn i m = s.handleMessage i m := by
  obtain ⟨h1, h2, h3⟩ := h
  have he : (s.slot i).missEcho = s.slot i := by simp [SlotEntry.missEcho, h3]
  have hu : s.useEchoTurn i m = s := by cases m <;> simp [State.useEchoTurn, he]
  rw [State.uplinkTurn, if_neg (by simp [h1]), if_pos hg, State.takeMessage, hu, State.foundAgain, if_neg h2]

theorem SlotEntry.placeDisplay_open {e : SlotEntry} (d : Display) (h : e.mode ≠ .routed .muted) :
    e.placeDisplay d = { e with display := some (e.displayNumber, d), nextItem := itemAfter e.displayNumber } := by
  rw [SlotEntry.placeDisplay, if_neg h]

theorem SlotEntry.placeOutcome_open {e : SlotEntry} (o : OutcomeItem) (h : e.mode ≠ .routed .muted) :
    e.placeOutcome o = { e with outcome := some (e.nextItem, o), display := none, nextItem := itemAfter e.nextItem } := by
  rw [SlotEntry.placeOutcome, if_neg h]

theorem EntryMethod.ofCode_some {method : U8} (h : 1 ≤ method.toNat ∧ method.toNat ≤ 4) :
    ∃ m, EntryMethod.ofCode method = some m := by
  have : method = 1 ∨ method = 2 ∨ method = 3 ∨ method = 4 := by
    rcases (show method.toNat = 1 ∨ method.toNat = 2 ∨ method.toNat = 3 ∨ method.toNat = 4 by omega) with h | h | h | h
    · exact .inl (BitVec.eq_of_toNat_eq h)
    · exact .inr (.inl (BitVec.eq_of_toNat_eq h))
    · exact .inr (.inr (.inl (BitVec.eq_of_toNat_eq h)))
    · exact .inr (.inr (.inr (BitVec.eq_of_toNat_eq h)))
  rcases this with rfl | rfl | rfl | rfl <;> exact ⟨_, rfl⟩

theorem present_method {share : U8} {part : U32} {tipKind : U8} {tipValue : U32} {token : Bytes} {method tag : U8}
   (h : (UplinkMessage.present share part tipKind tipValue token method tag).good = true) :
    ∃ m, EntryMethod.ofCode method = some m := by
  simp only [UplinkMessage.good, Bool.and_eq_true, decide_eq_true_eq] at h
  exact EntryMethod.ofCode_some h.1.2

/-- A presence change with room in the queue (R96). -/
theorem State.movePresence_eq {s : State} {i : Slot} {p : Presence} {id : Option Bytes} (h : (s.slot i).presence ≠ p)
    (hp : s.line.places < 56) :
   s.movePresence i p id = { s.withSlot i { s.slot i with presence := p } with line := { s.line with queue := s.line.queue ++
      match (s.slot i).mode with
      | .routed (.bound n) => [slotPresenceNotice i p id n ((s.slot i).inFlight.getD 0)]
      | .routed .idle | .routed (.message _) | .routed .muted | .probe _ => [] } } := by
  rw [State.movePresence]
  dsimp only
  rw [if_neg h]
  cases hm : (s.slot i).mode with
  | probe m => simp [SlotEntry.boundCheck, hm]; rfl
  | routed m =>
    cases m with
    | bound n =>
      simp only [SlotEntry.boundCheck, hm]
      rw [State.offer_room (f := _) (h := by exact hp)]
      rfl
    | idle => simp [SlotEntry.boundCheck, hm]; rfl
    | message t => simp [SlotEntry.boundCheck, hm]; rfl
    | muted => simp [SlotEntry.boundCheck, hm]; rfl

theorem State.endProbes_none {s : State} (h : ∀ (i : Slot) (m : RouteMode), (s.slot i).mode ≠ .probe m) : s.endProbes = s := by
  have key : ∀ l : List Slot, l.foldl (fun s i => s.endProbe true i) s = s := by
    intro l
    induction l with
    | nil => rfl
    | cons i l ih =>
      have : s.endProbe true i = s := by
        unfold State.endProbe
        split
        · rename_i m hm; exact absurd hm (h i m)
        · rfl
      rw [List.foldl_cons, this, ih]
  exact key _

/-- What a boundary can change from s to t: slots, the queue's tail, and what a report of an overrun changes. -/
structure Slotwise (s t : State) : Prop where
  same : t = { s with
    line := { s.line with queue := t.line.queue }, faults := t.faults, run := { s.run with state := t.run.state }
    journal := { s.journal with cells := t.journal.cells, next := t.journal.next }
    radio := { s.radio with slots := t.radio.slots } }
  queue : s.line.queue <+: t.line.queue

theorem Slotwise.refl (s : State) : Slotwise s s := ⟨rfl, List.prefix_rfl⟩
theorem Slotwise.trans {s t u : State} (h : Slotwise s t) (h' : Slotwise t u) : Slotwise s u := by
  refine ⟨?_, h.queue.trans h'.queue⟩
  have e := h'.same
  rw [h.same] at e
  exact e
theorem Reported.slotwise {s t : State} (h : Reported s t) : Slotwise s t := by
  refine ⟨?_, h.queue⟩
  have e := h.same
  rw [h.radio]
  exact e
theorem putSlot_slotwise (s : State) (i : Slot) (e : SlotEntry) : Slotwise s (s.putSlot i e) := ⟨rfl, List.prefix_rfl⟩

def boundaryEntry (e : SlotEntry) : SlotEntry :=
  if e.probeDone then match e.missEcho.mode with | .probe m => e.missEcho.restored m | .routed _ => e.missEcho
  else e.nextTurn

theorem boundaryAt_spec (s : State) (i : Slot) : Slotwise s (s.boundaryAt i) ∧
    ∀ j, (s.boundaryAt i).slot j = if i = j then boundaryEntry (s.slot j) else s.slot j := by
  unfold State.boundaryAt boundaryEntry
  by_cases h : (s.slot i).probeDone = true
  · rw [if_pos h]
    unfold State.endProbe
    simp only [State.slot_putSlot_same]
    cases hm : (s.slot i).missEcho.mode with
    | probe m =>
      simp only
      refine ⟨((putSlot_slotwise _ _ _).trans (offer_reported _ _).slotwise).trans (putSlot_slotwise _ _ _), ?_⟩
      intro j
      rw [State.slot_putSlot]
      by_cases hij : i = j
      · subst hij
        simp only [if_true, h, hm]
        rw [(offer_reported _ _).slot, State.slot_putSlot_same]
      · simp only [if_neg hij]
        rw [(offer_reported _ _).slot, State.slot_putSlot, if_neg hij]
    | routed m =>
      simp only
      refine ⟨putSlot_slotwise _ _ _, ?_⟩
      intro j
      rw [State.slot_putSlot]
      by_cases hij : i = j
      · subst hij
        simp only [if_true, h, hm]
      · simp only [if_neg hij]
  · rw [if_neg h]
    refine ⟨putSlot_slotwise _ _ _, ?_⟩
    intro j
    rw [State.slot_putSlot]
    by_cases hij : i = j
    · subst hij
      simp only [if_true, if_neg h]
    · simp only [if_neg hij]

theorem boundaryFold_spec (l : List Slot) (hl : l.Nodup) : ∀ s : State, Slotwise s (l.foldl State.boundaryAt s) ∧
    ∀ j, (l.foldl State.boundaryAt s).slot j = if j ∈ l then boundaryEntry (s.slot j) else s.slot j := by
  induction l with
  | nil => intro s; exact ⟨Slotwise.refl s, fun j => by simp⟩
  | cons i l ih =>
    intro s
    obtain ⟨hi, hl'⟩ := List.nodup_cons.mp hl
    obtain ⟨h1, h2⟩ := ih hl' (s.boundaryAt i)
    obtain ⟨h3, h4⟩ := boundaryAt_spec s i
    refine ⟨h3.trans h1, ?_⟩
    intro j
    rw [List.foldl_cons, h2 j, h4 j]
    by_cases hij : i = j
    · subst hij; simp [hi]
    · simp only [if_neg hij, List.mem_cons]
      by_cases hjl : j ∈ l
      · simp [hjl]
      · have : ¬ (j = i ∨ j ∈ l) := by rintro (h | h); exact hij h.symm; exact hjl h
        rw [if_neg hjl, if_neg this]

theorem fillSlot_spec (s : State) (i : Slot) : (s.fillSlot i) = { s with radio := { s.radio with
    slots := (s.fillSlot i).radio.slots
    fill := { s.radio.fill with
      filled := s.radio.fill.filled + (if s.fillSkips i then 0 else 1)
      skipped := s.radio.fill.skipped ++ (if s.fillSkips i then [i.val] else []) } } } ∧
   ∀ j, (s.fillSlot i).slot j = if i = j ∧ s.fillSkips i = false then
      (if s.radio.fill.targetFreed then (s.slot i).setIdle s.checks else (s.slot i).route s.checks s.radio.fill.mode)
      else s.slot j := by
  unfold State.fillSlot
  by_cases h : s.fillSkips i = true
  · simp only [h, if_true]
    refine ⟨rfl, ?_⟩
    intro j; simp; rfl
  · simp only [h]
    refine ⟨?_, ?_⟩
    · simp [State.setRadio]
    · intro j
      have : ∀ e f, State.slot ((s.putSlot i e).setRadio { (s.putSlot i e).radio with fill := f }) j = (s.putSlot i e).slot j :=
        fun e f => rfl
      simp only [Bool.false_eq_true, if_false]
      rw [this, State.slot_putSlot]
      simp

theorem fillFold_spec (l : List Slot) (hl : l.Nodup) : ∀ s : State, (l.foldl State.fillSlot s) = { s with radio := { s.radio with
    slots := (l.foldl State.fillSlot s).radio.slots
    fill := { s.radio.fill with
      filled := s.radio.fill.filled + (l.filter fun i => !s.fillSkips i).length
      skipped := s.radio.fill.skipped ++ (l.filter s.fillSkips).map Fin.val } } } ∧
   ∀ j, (l.foldl State.fillSlot s).slot j = if j ∈ l ∧ s.fillSkips j = false then
      (if s.radio.fill.targetFreed then (s.slot j).setIdle s.checks else (s.slot j).route s.checks s.radio.fill.mode)
      else s.slot j := by
  induction l with
  | nil => intro s; refine ⟨?_, ?_⟩; simp; intro j; simp
  | cons i l ih =>
    intro s
    obtain ⟨hi, hl'⟩ := List.nodup_cons.mp hl
    obtain ⟨h3, h4⟩ := fillSlot_spec s i
    obtain ⟨h1, h2⟩ := ih hl' (s.fillSlot i)
    generalize hu : s.fillSlot i = u at *
    have hne : ∀ j, j ∈ l → i ≠ j := fun j hj h => hi (h ▸ hj)
    have hskip : ∀ j ∈ l, u.fillSkips j = s.fillSkips j := by
      intro j hj
      unfold State.fillSkips
      have e1 : u.slot j = s.slot j := by rw [h4 j, if_neg (by simp [hne j hj])]
      have e2 : u.radio.fill.mode = s.radio.fill.mode := by rw [h3]
      have e3 : u.slotEnabled j = s.slotEnabled j := by rw [h3]; rfl
      rw [e1, e2, e3]
    have hf1 : l.filter u.fillSkips = l.filter s.fillSkips := List.filter_congr hskip
    have hf2 : (l.filter fun i => !u.fillSkips i) = l.filter fun i => !s.fillSkips i :=
      List.filter_congr (fun j hj => by rw [hskip j hj])
    have hchk : u.checks = s.checks := by rw [h3]
    have htf : u.radio.fill.targetFreed = s.radio.fill.targetFreed := by rw [h3]
    have hmd : u.radio.fill.mode = s.radio.fill.mode := by rw [h3]
    refine ⟨?_, ?_⟩
    · rw [List.foldl_cons, hu]
      rw [hf1, hf2] at h1
      generalize List.foldl State.fillSlot u l = w at *
      rw [h3] at h1
      rw [h1]
      by_cases h : s.fillSkips i = true
      · simp [h]
      · simp [h]; omega
    · intro j
      rw [List.foldl_cons, hu, h2 j, hchk, htf, hmd]
      by_cases hjl : j ∈ l
      · rw [hskip j hjl, h4 j]
        simp [hjl, hne j hjl]
      · have := h4 j
        simp only [hjl, false_and, if_false, List.mem_cons, or_false]
        rw [this]
        by_cases hij : i = j
        · subst hij; simp
        · simp [hij, Ne.symm hij]

end Sys2Proof.Machine
end

