-- ==== Sys2Proof/Laws/Resets.lean ====
section
/-! SUPPORT. What RESET and a falling edge of RESET# do (R149, R151). -/

namespace Sys2Proof.Machine

open Sys2Proof

/-- RESET with no edge waiting behind it is the line reset alone. -/
theorem resetCommand_alone {s : State} (tag : U8) (h : s.edgeNext = false) : resetCommand tag s = s.commandReset tag := by
  simp [resetCommand, h]

/-- RESET with an edge waiting behind it: the edge comes later, or fell at its moment and holds the part. -/
theorem resetCommand_edge {s : State} (tag : U8) (h : s.edgeNext = true) :
    resetCommand tag s =
      if Config.edgeAtReset s.freeCount = true then
        { s.commandReset tag with pinLow := true, hold := .command, freeCount := s.freeCount + 1 }
      else { s.commandReset tag with freeCount := s.freeCount + 1 } := by
  by_cases e : Config.edgeAtReset s.freeCount = true <;> simp [resetCommand, State.setFree, h, e]

/-- The row of an edge that a RESET has taken with it makes no second reset. -/
theorem execResetPinFall_low {s : State} (low : s.pinLow = true) : execResetPinFall s = .next s := by
  simp [execResetPinFall, low]

end Sys2Proof.Machine
end

