-- ==== Sys2Proof/Laws/Store.lean ====
section
/-! SUPPORT. The store write list: what placing a request changes, when it waits and when it begins, and what the store serves once a
write has ended. -/

namespace Sys2Proof.Machine

open Sys2Proof

/-- Placing a request changes only the list, the write in progress and the free-value counter. -/
theorem State.placeRequest_frame (s : State) (r : StoreRequest) :
    ∃ w c n, s.placeRequest r = { s with store := { s.store with waiting := w, current := c }, freeCount := n } := by
  have hb : ∀ t : State, ∃ w c n, t.beginWrite = { t with store := { t.store with waiting := w, current := c }, freeCount := n } := by
    intro t
    unfold State.beginWrite
    split
    · exact ⟨_, _, _, rfl⟩
    · exact ⟨t.store.waiting, t.store.current, t.freeCount, rfl⟩
  have hf : ∀ t : State, ∃ w, t.handFree = { t with store := { t.store with waiting := w } } := by
    intro t
    unfold State.handFree
    split
    · split
      · exact ⟨_, rfl⟩
      · exact ⟨t.store.waiting, rfl⟩
    · exact ⟨t.store.waiting, rfl⟩
  unfold State.placeRequest State.pumpStore
  generalize hS : s.setStore _ = S
  obtain ⟨w1, c1, n1, e1⟩ := hb S
  rw [e1]
  generalize hS1 : ({ S with store := _, freeCount := _ } : State) = S1
  obtain ⟨w2, e2⟩ := hf S1
  rw [e2]
  generalize hS2 : ({ S1 with store := _ } : State) = S2
  obtain ⟨w3, c3, n3, e3⟩ := hb S2
  rw [e3]
  refine ⟨w3, c3, n3, ?_⟩
  rw [← hS2, ← hS1, ← hS]
  rfl

/-- While a write is in progress, a request waits at the tail. -/
theorem State.placeRequest_waits {s : State} (r : StoreRequest) (hc : s.store.current.isSome = true) (hb : s.uplink.backlog = []) :
   s.placeRequest r = s.setStore { s.store with waiting := s.store.waiting ++ [r] } := by
  unfold State.placeRequest
  exact State.pumpStore_idle _ (.inl hc) hb

/-- With nothing waiting or in progress, a request begins. -/
theorem State.placeRequest_begins {s : State} (r : StoreRequest) (hc : s.store.current = none) (hw : s.store.waiting = [])
    (hb : s.uplink.backlog = []) :
   ∃ u n, s.placeRequest r = (s.setStore { s.store with waiting := [], current := some { request := r, unit := u } }).setFree n := by
  let u := buildUnit (s.setStore { s.store with waiting := s.store.waiting ++ [r] }) r
  refine ⟨u.1, s.freeCount + u.2, ?_⟩
  have h1 : (s.setStore { s.store with waiting := s.store.waiting ++ [r] }).beginWrite =
      (s.setStore { s.store with waiting := [], current := some { request := r, unit := u.1 } }).setFree (s.freeCount + u.2) := by
    unfold State.beginWrite
    simp only [State.setStore_store, hc, hw, List.nil_append]
    rfl
  unfold State.placeRequest State.pumpStore
  rw [h1]
  have h2 : ∀ t : State, t.uplink.backlog = [] → t.handFree = t := by
    intro t ht; unfold State.handFree; simp only [ht]
  rw [h2 _ (by exact hb)]
  have h3 : ∀ t : State, t.store.current.isSome = true → t.beginWrite = t := by
    intro t ht
    unfold State.beginWrite
    split
    · rename_i h _; simp [h] at ht
    · rfl
  rw [h3 _ rfl]

/-! ### What the store serves (R85, R145) -/

theorem settingsUnit_eq (st : SettingStore) (content : Settings) : settingsUnit st content = st.copyWritten content := by
  unfold settingsUnit SettingStore.copyWritten
  cases st.first <;> cases st.second <;> try rfl
  rename_i a b
  by_cases h : a.count ≤ b.count
  · simp [h]
  · simp [h, Nat.max_eq_left (Nat.le_of_lt (Nat.lt_of_not_le h))]

/-- A room counts as empty when it holds no copy. -/
theorem Room.isEmpty_iff (x : Room) : x.isEmpty = true ↔ ∀ f k, x ≠ .copy f k := by
  cases x <;> simp [Room.isEmpty]

theorem roomOf_none {rooms : Vector Room 64} {n : Nat} (h : roomOf rooms n = none) (i : Fin 64) (f : ForwardEntry) (k : Nat)
    (hi : rooms[i] = .copy f k) : f.number ≠ n := by
  have := List.find?_eq_none.mp h i (List.mem_finRange i)
  rw [hi] at this
  simpa using this

theorem roomOf_some {rooms : Vector Room 64} {n : Nat} {i : Fin 64} (h : roomOf rooms n = some i) :
    (∃ f k, rooms[i] = .copy f k ∧ f.number = n) ∧
      ∀ (j : Fin 64) g l, j < i → rooms[j] = .copy g l → g.number ≠ n := by
  obtain ⟨hp, pre, post, he, hpre⟩ := List.find?_eq_some_iff_append.mp h
  refine ⟨?_, fun j g l hj hc => ?_⟩
  · cases hr : rooms[i] with
    | copy f k => rw [hr] at hp; exact ⟨f, k, rfl, by simpa using hp⟩
    | empty m => rw [hr] at hp; simp at hp
    | damaged => rw [hr] at hp; simp at hp
  · have hs : (List.finRange 64).Pairwise (· < ·) := List.pairwise_lt_finRange 64
    have hmem : j ∈ pre := by
      have hm := List.mem_finRange j
      rw [he] at hm hs
      rcases List.mem_append.mp hm with hm | hm
      · exact hm
      · obtain ⟨-, hs, -⟩ := List.pairwise_append.mp hs
        rcases List.mem_cons.mp hm with rfl | hm
        · exact absurd hj (lt_irrefl _)
        · exact absurd hj (not_lt_of_gt (List.rel_of_pairwise_cons hs hm))
    have := hpre j hmem
    rw [hc] at this
    simpa using this

/-- What a request begins with is what R145 puts in the store; an append alone may read a free value. -/
theorem buildUnit_spec (s : State) (r : StoreRequest) :
    s.mayWrite r (buildUnit s r).1 ∧
      ((buildUnit s r).2 = 0 ∨ ((buildUnit s r).2 = 1 ∧ ∃ e next, r = .append e next)) := by
  cases r with
  | setting tag n v named => exact ⟨settingsUnit_eq _ _, .inl rfl⟩
  | powerOnSettings => exact ⟨settingsUnit_eq _ _, .inl rfl⟩
  | append e next =>
    have hm : ∀ i, i ∈ emptyRooms s.store.rooms ↔ ∀ f k, s.store.rooms[i] ≠ .copy f k := by
      intro i
      simp only [emptyRooms, List.mem_filter, List.mem_finRange, true_and]
      exact Room.isEmpty_iff _
    simp only [State.mayWrite, buildUnit]
    split
    · rename_i h
      refine ⟨.inl ⟨rfl, fun i => ?_⟩, .inl rfl⟩
      have := (not_congr (hm i)).mp (by simp [h])
      push Not at this
      exact this
    · rename_i i h
      exact ⟨.inr ⟨i, rfl, (hm i).mp (by simp [h])⟩, .inl rfl⟩
    · rename_i i j rest h
      refine ⟨.inr ⟨_, rfl, (hm _).mp ?_⟩, .inr ⟨rfl, e, next, rfl⟩⟩
      rw [h, List.getD_eq_getElem _ _ (Nat.mod_lt _ (by simp))]
      exact List.getElem_mem _
  | free n =>
    simp only [State.mayWrite, buildUnit]
    split
    · rename_i i h
      obtain ⟨⟨f, k, hf, hn⟩, hlow⟩ := roomOf_some h
      exact ⟨.inr ⟨i, f, k, rfl, hf, hn, hlow⟩, .inl rfl⟩
    · rename_i h
      exact ⟨.inl ⟨rfl, roomOf_none h⟩, .inl rfl⟩

/-- With no write in progress, the store serves its list and the backlog. -/
theorem State.pumpStore_serves {s : State} (hc : s.store.current = none) : s.serves s.pumpStore := by
  have hstop : ∀ t : State, t.store.current.isSome = true → t.beginWrite = t := by
    intro t ht
    unfold State.beginWrite
    split
    · rename_i h _; simp [h] at ht
    · rfl
  have hfirst : ∀ (t : State) (r : StoreRequest) (rest : List StoreRequest), t.store.current = none → t.store.waiting = r :: rest →
      t.beginWrite = (t.setStore { t.store with
        waiting := rest, current := some { request := r, unit := (buildUnit t r).1 } }).setFree (t.freeCount + (buildUnit t r).2) := by
    intro t r rest h1 h2
    unfold State.beginWrite
    simp only [h1, h2]
  have hbegins : ∀ (t : State) (r : StoreRequest),
      (t.freeCount + (buildUnit t r).2 = t.freeCount ∨
        (t.freeCount + (buildUnit t r).2 = t.freeCount + 1 ∧ ∃ e next, r = .append e next)) := by
    intro t r
    rcases (buildUnit_spec t r).2 with h | ⟨h, he⟩
    · exact .inl (by omega)
    · exact .inr ⟨by omega, he⟩
  unfold State.serves State.pumpStore
  cases hw : s.store.waiting with
  | nil =>
    have h0 : s.beginWrite = s := by unfold State.beginWrite; simp only [hc, hw]
    rw [h0]
    cases hb : s.uplink.backlog with
    | nil =>
      have h1 : s.handFree = s := by unfold State.handFree; simp only [hb]
      rw [h1, h0]
      exact ⟨[], none, s.freeCount, by rw [← hw, ← hc], rfl, rfl, rfl⟩
    | cons n more =>
      have h1 : s.handFree = s.setStore { s.store with waiting := [.free n] } := by
        unfold State.handFree
        simp [hb, SettingStore.freeListed, hw, hc, Config.storeListSize]
      rw [h1, hfirst (s.setStore { s.store with waiting := [.free n] }) (.free n) [] hc rfl]
      exact ⟨[], _, _, rfl, rfl, ⟨_, rfl, (buildUnit_spec (s.setStore { s.store with waiting := [.free n] }) (.free n)).1⟩,
        hbegins _ _⟩
  | cons r rest =>
    rw [hfirst s r rest hc hw]
    have hspec := (buildUnit_spec s r).1
    have hfree := hbegins s r
    generalize (buildUnit s r).1 = unit at hspec ⊢
    generalize s.freeCount + (buildUnit s r).2 = free at hfree ⊢
    cases hb : s.uplink.backlog with
    | nil =>
      refine ⟨rest, some { request := r, unit := unit }, free, ?_, rfl, ⟨unit, rfl, hspec⟩, hfree⟩
      unfold State.handFree
      simp only [State.setFree_uplink, State.setStore_uplink, hb]
      exact hstop _ rfl
    | cons n more =>
      refine ⟨_, some { request := r, unit := unit }, free, ?_, rfl, ⟨unit, rfl, hspec⟩, hfree⟩
      unfold State.handFree
      have hl : ((rest.any StoreRequest.isFree || r.isFree) = false ∧ rest.length < Config.storeListSize) ↔
          ((r :: rest).any StoreRequest.isFree = false ∧ rest.length < 8) := by
        rw [List.any_cons, Bool.or_comm]; rfl
      simp only [State.setFree_uplink, State.setStore_uplink, hb, SettingStore.freeListed, State.setFree_store,
        State.setStore_store, Option.map_some, Option.getD_some, hl]
      split <;> rw [hstop _ rfl] <;> rfl

/-- At any event the store serves its list, or takes the next free of the backlog behind the write in progress. -/
theorem State.pumpStore_hands (s : State) : s.hands s.pumpStore := by
  unfold State.hands
  cases hc : s.store.current with
  | none => exact State.pumpStore_serves hc
  | some w =>
    have hstop : ∀ t : State, t.store.current = some w → t.beginWrite = t := by
      intro t ht
      unfold State.beginWrite
      simp only [ht]
    have hkeep : s = { s with store := { s.store with waiting := s.store.waiting ++ [] } } := by rw [List.append_nil]
    unfold State.pumpStore
    rw [hstop s hc]
    unfold State.handFree
    cases hb : s.uplink.backlog with
    | nil => exact (hstop s hc).trans hkeep
    | cons n more =>
      have hl : (s.store.freeListed = false ∧ s.store.waiting.length < Config.storeListSize) ↔
          (w.request.isFree = false ∧ s.store.waiting.any StoreRequest.isFree = false ∧ s.store.waiting.length < 8) := by
        rw [← and_assoc, and_comm (a := w.request.isFree = false)]
        simp [SettingStore.freeListed, hc, Config.storeListSize]
      simp only [hl]
      split
      · exact hstop _ hc
      · exact (hstop s hc).trans hkeep

/-- What placing a request leaves (R144, R145). -/
theorem State.placeRequest_hands (s : State) (r : StoreRequest) :
    State.hands { s with store := { s.store with waiting := s.store.waiting ++ [r] } } (s.placeRequest r) :=
  State.pumpStore_hands _

end Sys2Proof.Machine
end

