-- ==== Sys2Proof/Laws/Tenders.lean ====
section
/-! SUPPORT. Intake and issue: the tests of R49 and R79 in the order of their tables, and a tender entering the pool. -/

namespace Sys2Proof.Machine

open Sys2Proof

theorem firstFailed_cons (r : OutcomeReason) (b : Bool) (rest : List (OutcomeReason × Bool)) :
    (((r, b) :: rest).find? fun x => !x.2).map Prod.fst = if b = true then (rest.find? fun x => !x.2).map Prod.fst else some r := by
  cases b <;> simp

/-- Intake is the first test of R49 that fails. -/
theorem intake_spec (s : State) (i : Slot) (share : Nat) :
    (∀ r, intakeRefusal s i share = some r → intake s i share = .error r) ∧
    (intakeRefusal s i share = none → ∃ n c x, (s.slot i).boundCheck = some n ∧ s.check n = some c ∧ c.share share = some x ∧
       x.openAmt ≠ 0 ∧ c.state ≠ .barrier ∧ intake s i share = .ok (c, x)) := by
  have hu : intakeRefusal s i share = if s.run.state = .serving then if s.run.hold = true then some .hold else
      match (s.slot i).boundCheck with
      | none => some .notAssigned
      | some n => if (s.tenders.pool.any fun t => t.slot == i) = true then some .slotBusy else
        match s.check n with
        | none => some .noShare
        | some c => if c.state = .barrier then some .barrier else
          match c.share share with
          | none => some .noShare
          | some x => if x.openAmt = 0 then some .nothingDue else
             if (s.tenders.issueList n).length < Config.maxTendersPerCheck then
               if s.tenders.pool.length < Config.maxTenders then none else some .poolFull
             else some .checkBusy
      else some .notServing := by
    have hall : (s.tenders.pool.all fun t => t.slot != i) = !(s.tenders.pool.any fun t => t.slot == i) := by
      induction s.tenders.pool with
      | nil => rfl
      | cons t l ih => simp only [List.all_cons, List.any_cons, ih, Bool.not_or]; rfl
    simp only [intakeRefusal, intakeTable, firstFailed_cons, hall]
    by_cases h1 : s.run.state = .serving
    · rw [if_pos (by simpa using h1), if_pos h1]
      by_cases h2 : s.run.hold = true
      · rw [if_neg (by simp [h2]), if_pos h2]
      · rw [if_pos (by simpa using h2), if_neg h2]
        cases hb : (s.slot i).boundCheck with
        | none => simp
        | some n =>
          simp only [Option.isSome_some, if_true]
          by_cases h3 : (s.tenders.pool.any fun t => t.slot == i) = true
          · rw [if_neg (by simp [h3]), if_pos h3]
          · rw [if_pos (by simpa using h3), if_neg h3]
            simp only [Option.bind_some]
            obtain hc | ⟨c, hc⟩ := Option.eq_none_or_eq_some (s.check n)
            · simp [hc]
            · simp only [hc, Option.bind_some, Option.all_some]
              by_cases h4 : c.state = .barrier
              · rw [if_neg (by simp [h4]), if_pos h4]
              · rw [if_pos (by simpa using h4), if_neg h4]
                obtain hx | ⟨x, hx⟩ := Option.eq_none_or_eq_some (c.share share)
                · simp [hx]
                · simp only [hx, Option.isSome_some, if_true, Option.all_some]
                  by_cases h5 : x.openAmt = 0
                  · rw [if_neg (by simp [h5]), if_pos h5]
                  · rw [if_pos (by simpa using h5), if_neg h5]
                    by_cases h6 : (s.tenders.issueList n).length < Config.maxTendersPerCheck
                    · rw [if_pos (by simpa using h6), if_pos h6]
                      by_cases h7 : s.tenders.pool.length < Config.maxTenders
                      · rw [if_pos (by simpa using h7), if_pos h7]; simp
                      · rw [if_neg (by simpa using h7), if_neg h7]
                    · rw [if_neg (by simpa using h6), if_neg h6]
    · rw [if_neg (by simpa using h1), if_neg h1]
  rw [hu]
  unfold intake
  by_cases h1 : s.run.state = .serving
  · rw [if_pos h1]; simp only [h1, ne_eq, not_true, if_false]
    by_cases h2 : s.run.hold = true
    · simp [h2]
    · simp only [h2]
      cases hb : (s.slot i).boundCheck with
      | none => simp
      | some n =>
        simp only
        by_cases h3 : (s.tenders.pool.any fun t => t.slot == i) = true
        · simp only [h3]; simp
        · simp only [h3]
          cases hc : s.check n with
          | none => simp
          | some c =>
            simp only
            by_cases h4 : c.state = .barrier
            · simp [h4]
            · simp only [h4]
              cases hx : c.share share with
              | none => simp
              | some x =>
                simp only
                by_cases h5 : x.openAmt = 0
                · simp [h5]
                · simp only [h5]
                  by_cases h6 : (s.tenders.issueList n).length < Config.maxTendersPerCheck
                  · simp only [h6, Nat.not_le.mpr h6]
                    by_cases h7 : s.tenders.pool.length < Config.maxTenders
                    · simp only [h7, Nat.not_le.mpr h7]
                      simp [hc, hx, h5, h4]
                    · simp [h7, Nat.not_lt.mp h7]
                  · simp [h6, Nat.not_lt.mp h6]
  · simp [h1]

theorem intake_ok {s : State} {i : Slot} {n : Nat} {c : Check} {x : Share} {share : Nat}
    (hb : (s.slot i).mode = .routed (.bound n)) (hc : s.check n = some c)
    (hx : c.share share = some x)
  (hi : intakeRefusal s i share = none) : intake s i share = .ok (c, x) ∧ x.openAmt ≠ 0 ∧ c.state ≠ .barrier := by
  obtain ⟨n', c', x', h1, h2, h3, h4, h5, h6⟩ := (intake_spec s i share).2 hi
  simp only [SlotEntry.boundCheck, hb, Option.some.injEq] at h1
  subst h1
  rw [hc] at h2; cases h2
  rw [hx] at h3; cases h3
  exact ⟨h6, h4, h5⟩

/-- The offline decision is the first test of R79 that fails. -/
theorem offlineRefusal_spec (s : State) (t : Tender) : offlineRefusal s t = offlineReason s t.method t.requested := by
  unfold offlineRefusal offlineReason offlineTable
  simp only [firstFailed_cons]
  by_cases h1 : t.method = .keyed
  · have b1 : ¬ (t.method != .keyed) = true := by simp [h1]
    rw [if_pos h1, if_neg b1]
  · have b1 : (t.method != .keyed) = true := by simpa using h1
    rw [if_neg h1, if_pos b1]
    by_cases h2 : t.requested ≤ s.store.settings.offlineLimit
    · rw [if_neg (by omega : ¬ s.store.settings.offlineLimit < t.requested), if_pos (decide_eq_true h2)]
      by_cases h3 : s.uplink.exposure + t.requested ≤ s.store.settings.exposureCap
      · rw [if_neg (by omega : ¬ s.store.settings.exposureCap < s.uplink.exposure + t.requested), if_pos (decide_eq_true h3)]
        by_cases h4 : s.uplink.queue.length + s.uplink.backlog.length < Config.forwardSize ∧ s.uplink.nextForward < Config.exhausted
        · rw [if_neg (by omega : ¬ (Config.forwardSize ≤ s.uplink.queue.length + s.uplink.backlog.length ∨ Config.exhausted ≤ s.uplink.nextForward)),
            if_pos (decide_eq_true h4)]
          by_cases h5 : s.store.waiting.length < Config.storeListSize
          · rw [if_neg (by omega : ¬ Config.storeListSize ≤ s.store.waiting.length), if_pos (decide_eq_true h5)]; rfl
          · rw [if_pos (by omega : Config.storeListSize ≤ s.store.waiting.length), if_neg (by simpa using h5)]
        · rw [if_pos (by omega : (Config.forwardSize ≤ s.uplink.queue.length + s.uplink.backlog.length ∨ Config.exhausted ≤ s.uplink.nextForward)),
            if_neg (by simpa using h4)]
      · rw [if_pos (by omega : s.store.settings.exposureCap < s.uplink.exposure + t.requested), if_neg (by simpa using h3)]
    · rw [if_pos (by omega : s.store.settings.offlineLimit < t.requested), if_neg (by simpa using h2)]

/-- Settling that does not move into SETTLED queues nothing. -/
theorem settleCheck_quiet {s : State} {n : Nat} {c : Check} (h : s.check n = some c)
    (hs : c.settledState = .settled → c.state = .settled) :
    s.settleCheck n = s.putCheck { c with state := c.settledState } := by
  unfold State.settleCheck
  simp only [h]
  rw [if_neg]
  rintro ⟨h1, h2⟩
  exact h2 (hs h1)

theorem check_putCheck {s : State} {c c' : Check} (h : s.check c.number = some c') : (s.putCheck c).check c.number = some c :=
  findCheck_putCheck_same h

theorem putCheck_twice {s : State} {c c' : Check} (h : c.number = c'.number) : (s.putCheck c).putCheck c' = s.putCheck c' := by
  simp [State.putCheck, State.setChecks, putCheck_putCheck h]

theorem Check.hold_settled (c : Check) (a b : Nat) : (c.hold a b).settledState ≠ .settled := by
  unfold Check.settledState
  split
  · simp
  · rw [if_pos (by simp [Check.hold])]; simp

/-- What issuing a tender leaves (R51). -/
theorem enterPool_eq {s : State} {t : Tender} {c : Check} (hc : s.check t.check = some c) :
   s.enterPool t c = { s with
        checks := putCheck s.checks { c.hold t.share t.part with state := (c.hold t.share t.part).settledState }
        tenders := { s.tenders with pool := s.tenders.pool ++ [t], lastId := t.id }
        radio := { s.radio with slots := s.radio.slots.set t.slot { s.slot t.slot with inFlight := some t.id } } } := by
  have hc0 : c.number = t.check := findCheck_number hc
  have hn : (c.hold t.share t.part).number = t.check := hc0
  have h1 : (s.putCheck (c.hold t.share t.part)).check t.check = some (c.hold t.share t.part) := by
    have := check_putCheck (s := s) (c := c.hold t.share t.part) (c' := c) (by rw [hn]; exact hc)
    rwa [hn] at this
  have h2 := Check.hold_settled c t.share t.part
  unfold State.enterPool
  generalize c.hold t.share t.part = d at *
  rw [settleCheck_quiet h1 (fun h => absurd h h2)]
  have h3 : (s.putCheck d).putCheck { d with state := d.settledState } = s.putCheck { d with state := d.settledState } :=
    putCheck_twice rfl
  simp only [h3]
  rfl

end Sys2Proof.Machine
end

