-- ==== Sys2Proof/Tests/Slice0.lean ====
section
/-! SUPPORT. Tests: ill-formed terms refused, the spec's own figures and sequences one step at a time, and for each statement with
hypotheses a state and operands that meet them. Expected values are the spec's (the section stands in each comment). -/

namespace Sys2Proof.Tests

-- One proof at a time: started all at once, the kernel evaluations below each take a thread.
set_option Elab.async false

open Sys2Proof Sys2Proof.Machine

/-! ### Helpers -/

/-- The next state of an outcome satisfies a test. -/
def after (o : Host.Outcome State Fault Refusal) (f : State → Bool) : Bool :=
  match o with
  | .next t => f t
  | .fault _ => false
  | .refused _ => false

def idOf (text : String) : Bytes := padded 8 0x20 (ascii text.toList)
def token : Bytes := List.replicate 16 0x39
def code : Bytes := ascii "A1B2C3".toList
def seatSet (l : List Nat) : U32 := BitVec.ofNat 32 (l.map fun k => 2 ^ (k - 1)).sum

/-- The settings of section 2.7. -/
def settings : Settings := { taxRate0 := 800, taxRate1 := 1250, serviceRate := 1800, serviceParty := 6 }

/-- The part after the bank test, in HALTED (section 10.2, step 3). -/
def halted : State :=
  { State.reset with
    journal := { State.reset.journal with results := Vector.replicate 8 .pass }
    store := { State.reset.store with settings := settings } }

/-- The part in SERVING with the uplink UP, no check in use (section 10.2, step 9). -/
def serving : State :=
  { halted with
    run := { RunControl.start with state := .serving, clock := 75000, clockSet := true }
    uplink := { Uplink.start with state := .up, setBy := .host } }

/-- The lines of check 4117 (section 2.7). -/
def lines : List LineEntry :=
  [{ price := 2900, quantity := 1, taxClass := 0, seats := seatSet [1], voided := false },
   { price := 6800, quantity := 1, taxClass := 1, seats := seatSet [1, 2, 3], voided := false },
   { price := 2370, quantity := 1, taxClass := 0, seats := seatSet [2], voided := false },
   { price := 3825, quantity := 1, taxClass := 0, seats := seatSet [3], voided := false }]

def groups : List U32 := [seatSet [1, 4], seatSet [2, 5], seatSet [3, 6]]

/-- Check 4117 as section 2.7.3 leaves it. -/
def check4117 : Check :=
  { number := 4117, table := 31, covers := 6, mode := .auto, state := .opened, lines := lines, plan := .bySeat groups
    totals := { s0 := 9095, s1 := 6800, t0 := 728, t1 := 850, sc := 2861, s := 15895, d := 20334 }
    shares := [
      { number := 1, group := seatSet [1, 4], due := 6613, openAmt := 6613, tipBase := 5167 },
      { number := 2, group := seatSet [2, 5], due := 5945, openAmt := 5945, tipBase := 4637 },
      { number := 3, group := seatSet [3, 6], due := 7776, openAmt := 7776, tipBase := 6091 }]
    begun := false, inPool := 0, parked := none, nextReceipt := 1 }

/-- A slot bound to check 4117, its terminal present. -/
def boundSlot : SlotEntry :=
  { SlotEntry.start with mode := .routed (.bound 4117), presence := .present, terminalId := some (idOf "HH-0107") }

/-- The start of section 10.3. -/
def banquet : State :=
  { serving with
    checks := [check4117], tenders := { TenderPool.start with lastId := 1300 }
    radio := { Radio.start with slots := ((Radio.start.slots.set 3 boundSlot).set 17 boundSlot).set 33 boundSlot } }

def tender (entry id share : Nat) (slot : Slot) (part tip : Nat) (clamped : Bool) : Tender :=
  { entry := entry, id := id, check := 4117, share := share, slot := slot, tag := 11, method := .chip, token := token, part := part,
    tip := tip, clamped := clamped, hold := part, state := .awaiting, cancelRequested := false, ps := 0, pt := 0, code := noCode,
    deferred := false, forward := 0, expiry := 75045, issuedAt := 75000 }

/-- One tender in flight: section 10.3 after step 1. -/
def one : State :=
  let t := tender 0 1301 1 3 6613 0 false
  { banquet with
    checks := [{ check4117.hold 1 6613 with state := .tendering }], tenders := { pool := [t], closed := [], lastId := 1301 }
    radio := { banquet.radio with slots := banquet.radio.slots.set 3 { boundSlot with inFlight := some 1301 } } }

/-- Three tenders in flight: section 10.3 after step 3. -/
def three : State :=
  { one with
    checks := [{ ((check4117.hold 1 6613).hold 2 5945).hold 3 4000 with state := .tendering }]
    tenders := {
      pool := [tender 0 1301 1 3 6613 0 false, tender 1 1302 2 17 5945 464 false, tender 2 1303 3 33 4000 1566 true]
      closed := [], lastId := 1303 }
    radio := { one.radio with
      slots := (one.radio.slots.set 17 { boundSlot with inFlight := some 1302 }).set 33 { boundSlot with inFlight := some 1303 } } }

/-- Check 4117 after step 1 of section 10.3. -/
def check1 : Check := { check4117.hold 1 6613 with state := .tendering }

/-- A parked ADD ITEM behind the one tender. -/
def parkedCheck : Check :=
  { check1 with parked := some { change := .addItem 1100 1 0 0, tag := 77 }, state := .barrier }
def parking : State := { one with checks := [parkedCheck] }

/-- A forward entry of the sequence of section 10.4. -/
def entry (number tender requested : Nat) (state : ForwardState) : ForwardEntry :=
  { number := number, tender := tender, check := 4117, share := 1, slot := 3, requested := requested, part := requested, tip := 0,
    method := .tap, token := token, time := 80004, state := state }

/-- Every fault code masked. -/
def masked (s : State) : State :=
  { s with faults := { s.faults with codes := Vector.replicate 18 { masked := true, cls := .note } } }

/-- A raise of this code captures a record, and its notice is admitted. -/
abbrev catches (s : State) (c : FaultCode) : Prop := s.admits c ∧ s.faults.captures c

theorem routed_ne_probe (m n : RouteMode) : SlotMode.routed m ≠ .probe n := nofun

/-! ### Ill-formed terms are refused by Instr.wf -/

theorem test_wf_wake : (Instr.wake 3 (List.replicate 7 0x20)).wf = false := by decide
theorem test_wf_present : (Instr.present 3 1 0 0 0 (List.replicate 15 0) 1 1).wf = false := by decide
theorem test_wf_echo : (Instr.echo 3 (List.replicate 31 0)).wf = false := by decide
theorem test_wf_openCheck : (Instr.openCheck 1 7 5 2 0 (some ⟨2, 2, [1]⟩)).wf = false := by decide
theorem test_wf_setSplit : (Instr.setSplit 1 7 ⟨3, 3, [5]⟩).wf = false := by decide
theorem test_wf_checkQuery : (Instr.checkQuery 1 7 (.other Config.summaryCode) 0).wf = false := by
  simp [Instr.wf, QueryPart.wf]
theorem test_wf_checkQuery_lines : (Instr.checkQuery 1 7 (.other Config.linesCode) 1).wf = false := by
  simp [Instr.wf, QueryPart.wf]
theorem test_wf_authResult : (Instr.authResult 1 5 1 100 (List.replicate 5 0x41) 0).wf = false := by decide
theorem test_wf_routeSlot : (Instr.routeSlot 1 3 2 0 (List.replicate 31 0x41)).wf = false := by decide
theorem test_wf_routeFill : (Instr.routeFill 1 2 0 (List.replicate 33 0x41)).wf = false := by decide
theorem test_wf_badUplinkFrame : (Instr.badUplinkFrame 3 (List.replicate 49 0)).wf = false := by decide

/-- A plan of 255 seat sets fits no frame (R165; log 55). -/
theorem test_wf_openCheck_long :
    (Instr.openCheck 1 7 5 2 0 (some ⟨2, 255, List.replicate 255 0⟩)).wf = false ∧
      (Instr.openCheck 1 7 5 2 0 (some ⟨2, 254, List.replicate 254 0⟩)).wf = true := by decide +kernel

/-! ### Figures of the spec -/

/-- The check value of section 9.2. -/
theorem test_crc_check_value : crc16 (ascii "123456789".toList) = 0x29B1 := by decide +kernel

/-- A frame written out from R165: RUN QUERY with tag 5 has length 2, and its CRC covers length, kind and tag. -/
theorem test_frame_runQuery :
    HostCommand.runQuery.frame 5 = [0xA5, 0x02, 0x00, 0x27, 0x05] ++ le 2 (crc16 [0x02, 0x00, 0x27, 0x05]).toNat := by decide +kernel

/-- ADD ITEM's body as R176 lays it out: check 4117, price 1,100, quantity 1, class 0, no seat set. -/
theorem test_body_addItem :
    (HostCommand.addItem 4117 1100 1 0 0).body = [0x15, 0x10, 0x4C, 0x04, 0, 0, 1, 0, 0, 0, 0, 0] := by decide

/-- The totals of section 2.7.1. -/
theorem test_totals : computeTotals settings .auto 6 lines = check4117.totals := by decide +kernel

/-- The shares of section 2.7.3. -/
theorem test_shares_bySeat : buildShares settings (.bySeat groups) lines 6 check4117.totals = check4117.shares := by decide +kernel

/-- The dues of section 2.7.2. -/
theorem test_shares_even :
    (buildShares settings (.even 4) lines 6 check4117.totals).map Share.due = [5084, 5084, 5083, 5083] := by decide +kernel

/-- The tip of section 2.7.2: 15 % of 3,974, below the cap. -/
theorem test_tip_percent : settleTip 50 3974 5084 5084 2 15 = (596, false) := by decide

/-- Share 3's tip in section 10.3: 3,500 clamped to 1,566. -/
theorem test_tip_clamped : settleTip 50 6091 4000 7776 1 3500 = (1566, true) := by decide

/-- The even division of R34's example. -/
theorem test_even_division : evenDivision 6800 3 = [2267, 2267, 2266] := by decide +kernel

/-- The largest approval code (R179). -/
theorem test_code_number : codeNumber (ascii "ZZZZZZ".toList) = 2565726408 := by decide +kernel

/-- The example of R116: base 6, extent 3, record 5,000 at place 392 of bank 7. -/
theorem test_journal_cell : ({ State.reset.journal with base := 6, extent := 3 } : Journal).cellOf 5000 = 7 * 512 + 392 := by
  decide +kernel

/-- The first bytes of a probe's pattern (R111). -/
theorem test_lfsr_first : patternBytes 2 (BitVec.allOnes 15) = [0x00, 0x02] := by decide

/-! ### The spec's sequences, one step each -/

/-- Section 10.2, step 2: SET RUN while the bank test runs is refused BUSY. -/
theorem test_setRun_testing :
    exec (.setRun 9 2) State.reset = .next (State.reset.replied 0x24 9 (.refused .busy)) := by rfl

/-- Section 10.2, step 4: a SETTING WRITE begins and owes its reply. -/
theorem test_settingWrite_begins :
    after (exec (.settingWrite 1 1 800) State.reset) (fun t =>
      t.store.current.map WriteInProgress.request == some (.setting 1 1 800 800) && t.line.owed == 1 && t.line.queue == []) = true := by
  decide +kernel

/-- Section 10.2, step 7: TIME SET writes record 0 with the clock before. -/
theorem test_timeSet :
    after (exec (.timeSet 5 64800) { halted with run := { halted.run with clock := 1 } }) (fun t =>
      t.run.clock == 64800 &&
        cellsRead 0 t.journal.cells == some { seq := 0, time := 64800, kind := .timeSet, amount := 1 }) = true := by
  decide +kernel

/-- Section 10.2, step 10: OPEN CHECK 4117. -/
theorem test_openCheck :
    after (exec (.openCheck 8 4117 31 6 0 none) serving) (fun t =>
      (t.check 4117).map (fun c => (c.state, c.totals.d, c.nextReceipt)) == some (.opened, 0, 1) && t.journal.next == 1) = true := by
  decide +kernel

/-- Section 10.2, step 13: WAKE shows "check" 4117, 31 and tells the host. -/
theorem test_wake :
    after (exec (.wake 3 (idOf "HH-0107")) { banquet with
      radio := { banquet.radio with slots := banquet.radio.slots.set 3 { SlotEntry.start with mode := .routed (.bound 4117) } } })
      (fun t => (t.slot 3).display == some (1, .text textCheck 4117 31) && (t.slot 3).presence == .present &&
        t.line.queue.map Frame.kind == [0xC9]) = true := by
  decide +kernel

/-- Section 2.7: the fourth ADD ITEM is answered with line 4 and D 20,334. -/
theorem test_addItem :
    after (exec (.addItem 4 4117 3825 1 0 (seatSet [3])) { banquet with
      checks := [{ check4117 with lines := lines.take 3, plan := .whole, totals := {}, shares := [] }] })
      (fun t => t.line.queue == [(Reply.accepted [4, 0x6E, 0x4F, 0, 0]).frame 0x02 4] &&
        (t.check 4117).map Check.totals == some check4117.totals) = true := by
  decide +kernel

/-- Section 2.7.6: ADD ITEM under payment lock raises share 25 by 1,386 with tip base 1,100. -/
theorem test_addItem_locked :
    after (exec (.addItem 4 4117 1100 1 0 0) { banquet with checks := [{ check4117 with begun := true, state := .tendering }] })
      (fun t => (t.check 4117).map (fun c => (c.totals.d, c.shares.map Share.due)) == some (21720, [6613, 5945, 7776, 1386]) &&
        ((t.check 4117).bind fun c => (c.share 25).map Share.tipBase) == some 1100) = true := by
  decide +kernel

/-- Section 10.3, step 3: a PRESENT of part 4,000 with an amount tip of 3,500 requests 5,566. -/
theorem test_present :
    after (exec (.present 33 3 4000 1 3500 token 1 13) banquet) (fun t =>
      t.tenders.pool.map (fun x => (x.id, x.part, x.tip, x.clamped, x.requested)) == [(1301, 4000, 1566, true, 5566)] &&
        ((t.check 4117).bind fun c => (c.share 3).map fun x => (x.held, x.openAmt)) == some (4000, 3776)) = true := by
  decide +kernel

/-- Section 10.3, step 4: ADD ITEM behind tenders is parked. -/
theorem test_addItem_parked :
    after (exec (.addItem 77 4117 1100 1 0 0) three) (fun t =>
      t.line.queue == [Reply.parked.frame 0x02 77] && (t.check 4117).map Check.state == some .barrier) = true := by
  decide +kernel

/-- Section 10.3, step 5: AUTH RESULT 1302 PARTIAL 5,000 releases 945 and waits behind 1301. -/
theorem test_authResult_partial :
    after (exec (.authResult 1 1302 2 5000 code 0) three) (fun t =>
      (t.tenders.find 1302).map (fun x => (x.state, x.ps, x.pt)) == some (.ready, 5000, 0) &&
        ((t.slot 17).outcome.map fun o => (o.2.kind, o.2.unpaid, o.2.openAmt)) == some (.partially, 945, 945)) = true := by
  decide +kernel

/-- Section 10.3, step 8 without the barrier: 1301 posts with receipt 1 and its share is PAID. -/
theorem test_authResult_posts :
    after (exec (.authResult 3 1301 1 6613 code 0) three) (fun t =>
      t.tenders.pool.map Tender.id == [1302, 1303] && t.tenders.closed.map ClosedTender.reason == [.posted] &&
        (t.check 4117).map Check.nextReceipt == some 2 && (t.slot 3).shareTotal == 6613) = true := by
  decide +kernel

/-- Section 10.4, step 2: a TAP of 4,300 with the uplink DOWN takes forward number 51. -/
theorem test_present_offline :
    after (exec (.present 3 1 4300 0 0 token 2 14) { banquet with uplink := { Uplink.start with nextForward := 51 } }) (fun t =>
      t.uplink.queue.map (fun e => (e.number, e.state, e.requested)) == [(51, .storing, 4300)] && t.uplink.exposure == 4300 &&
        t.uplink.nextForward == 52 && t.line.queue == []) = true := by
  decide +kernel

/-- Section 10.4, step 5: a request above OFFLINE TENDER LIMIT is DECLINED. -/
theorem test_present_offline_limit :
    after (exec (.present 3 1 6613 1 3400 token 1 14)
      { banquet with
        uplink := Uplink.start
        store := { banquet.store with settings := { settings with tipCap := 100 } } }) (fun t =>
      (t.slot 3).outcome.map (fun o => (o.2.kind, o.2.reason)) == some (.declined, 10) && t.uplink.queue == []) = true := by
  decide +kernel

/-- Section 10.4, step 10: FORWARD RESULT 51 ACCEPTED lowers the exposure to 7,750 and places its free. -/
theorem test_forwardResult :
    after (exec (.forwardResult 4 51 1 0) { serving with
      uplink := { serving.uplink with
        queue := [entry 51 1411 4300 .sent, entry 52 1413 7750 .sent], exposure := 12050, nextForward := 53 } })
      (fun t => t.uplink.exposure == 7750 && t.uplink.backlog == [51] &&
        t.store.current.map WriteInProgress.request == some (.free 51)) = true := by
  decide +kernel

/-- Section 10.5, steps 2 and 3: the sync drive falls, and the edge cuts 12,624..12,879 and sets the hold. -/
theorem test_snapLine :
    after (exec .snapLineFallingEdge { serving with
      journal := { serving.journal with next := 12880 }
      store := { serving.store with settings := { settings with snapSync := true, snapFreeze := true } } })
      (fun t => t.journal.snapshot.map (fun x => (x.start, x.stop)) == some (12624, some 12879) && t.run.hold) = true := by
  decide +kernel

/-- Section 10.5, step 10: SNAP ABSOLUTE from 12,880 ends at the last record, 12,882. -/
theorem test_snap_absolute :
    after (exec (.snap 4 2 0 12880 0) { serving with journal := { serving.journal with next := 12883 } })
      (fun t => t.journal.snapshot.map (fun x => (x.start, x.stop)) == some (12880, some 12882)) = true := by
  decide +kernel

/-- Section 10.5, step 4: SHIFT CLOSE with a tender in the pool is refused BUSY. -/
theorem test_shiftClose_busy :
    after (exec (.shiftClose 4) { one with run := { one.run with hold := true } })
      (fun t => t.line.queue == [(Reply.refused .busy).frame 0x31 4]) = true := by
  decide +kernel

/-- A FAULT MASK of a class number outside 1..3 is refused RANGE (R158). -/
theorem test_faultMask_range :
    after (exec (.faultMask 4 1 1 4) serving) (fun t => t.line.queue == [(Reply.refused .range).frame 0x2E 4]) = true := by
  decide +kernel

/-- R16: the freed check's SHOW of a slot in PROBE gives way to the display of an IDLE slot. -/
theorem test_closeCheck_probe :
    after (exec (.voidCheck 4 4117) (banquet.withSlot 3 { boundSlot with
        mode := .probe (.bound 4117), display := some (7, .text textCheck 4117 31), nextItem := 8 }))
      (fun t => (t.slot 3).mode == .probe .idle && (t.slot 3).display == some (8, .text textNotAssigned 0 0)) = true := by
  decide +kernel

/-- A falling edge of RESET# waits right behind the next command. -/
def edged : State := { one with pending := [.resetPinFall] }

/-- R149: a falling edge at the moment of a RESET leaves one reset, of cause COMMAND, with one RESTART and its reply; the edge's row then
does nothing. -/
theorem test_reset_with_edge (h : Config.edgeAtReset edged.freeCount = true) :
    after (.next (resetCommand 6 edged)) (fun t =>
      t.run.lastReset == some .command && t.journal.next == 1 && t.pinLow && !t.live &&
        t.line.queue == [(Reply.accepted []).frame 0x2A 6] && after (exec .resetPinFall t) (· == t)) = true := by
  rw [resetCommand_edge 6 (by decide +kernel), if_pos h]
  decide +kernel

/-- R151: a falling edge that comes after another event starts a line reset of cause PIN. -/
theorem test_reset_then_edge :
    after (exec (.reset 6) { one with pending := [.superframeBoundary, .resetPinFall] }) (fun t =>
      after (exec .resetPinFall t) fun u => u.run.lastReset == some .pin && u.hold == .line 0 0 0 && u.line.queue == []) = true := by
  decide +kernel

/-- R47: an AWAITING tender's entry ends with its seconds left, 45, after its own expiry and issue times; the closed entry follows. -/
theorem test_tenderQuery :
    after (exec (.tenderQuery 4 1301) one) (fun t =>
      t.line.queue.map (fun f => f.body.drop (f.body.length - 23)) ==
        [le 4 75045 ++ le 4 75000 ++ le 4 45 ++ List.replicate 11 0]) = true := by
  decide +kernel

/-- R177: the fields of a case that does not hold are as long as those of one that does. -/
theorem test_fixed_forms :
    noTenderFields.length = ((tender 0 1301 1 3 6613 1246 false).fields 75000).length ∧
      noClosedFields.length = (⟨1301, 4117, 1, 3, .posted, 75000⟩ : ClosedTender).fields.length ∧
      noTenderLists.length = TenderPool.start.lists.length ∧
      noSummary.length = { check4117 with plan := .whole, shares := [] }.summary.length := by
  decide +kernel

/-- R145: a setting write that waited begins when the one before it fails, into the copy that write damaged, its count one above the
other's. -/
theorem test_settingWrite_next :
    after (exec .settingWriteFail { halted with
      store := { halted.store with
        waiting := [.setting 6 8 20 20]
        current := some { request := .setting 5 1 900 900, unit := .settings true { count := 3, settings := settings.put 1 900 } } }
      line := { halted.line with owed := 2 } })
      (fun t => t.store.waiting == [] && t.store.current == some {
        request := .setting 6 8 20 20, unit := .settings true { count := 3, settings := settings.put 8 20 } }) = true := by
  decide +kernel

/-- The power-on settings write in progress, bank 7 not yet tested. -/
def startWriting : State :=
  { halted with
    journal := { halted.journal with results := halted.journal.results.set 7 .untested }
    store := { halted.store with first := none, second := none, current := some {
      request := .powerOnSettings, unit := .settings true { count := 1, settings := {} } } } }

/-- R164: the power-on settings write fails while the bank test runs, then bank 7 fails or passes: the source of the SEVERE record and
its flag. -/
theorem test_bankTest_after_writeFail (pass : Bool) :
    after (exec .settingWriteFail startWriting) (fun s => s.faults.severe.record.isNone && after (exec (.bankTest pass) s) fun t =>
      t.faults.severe.record.map (fun r => (r.code, r.source)) ==
          some (if pass then (.storeWriteFail, .store) else (.journalBankFail, .journal)) &&
        t.faults.severe.further == !pass) = true := by
  cases pass <;> decide +kernel

/-- R85, R145: the request that waited begins when a free ends, and the next free of the backlog takes its place in the list. -/
theorem test_free_next :
    after (exec .forwardFreeComplete { serving with
      uplink := { serving.uplink with backlog := [51, 52] }
      store := { serving.store with
        rooms := serving.store.rooms.set 0 (.copy (entry 51 1411 4300 .sent) 52)
        waiting := [.setting 6 8 20 20]
        current := some { request := .free 51, unit := .room 0 (.empty (some 53)) } } })
      (fun t => t.store.waiting == [.free 52] && t.store.current.map WriteInProgress.request == some (.setting 6 8 20 20) &&
        t.uplink.backlog == [52] && t.store.rooms[(0 : Fin 64)] == .empty (some 53)) = true := by
  decide +kernel

/-! ### Witnesses: a state and operands that meet the hypotheses of each statement, clause by clause -/

/-- A state with a record in its journal and a command in its queue, for the invariants. -/
def running : State :=
  { one with
    journal := one.journal.append 74000 { kind := .checkOpened, check := 4117, share := 6, amount := 31 }
    pending := [.authResult 3 1301 1 6613 code 0] }

theorem witness_StepTakesFront : State.reset.pending = [] := by decide

theorem witness_StepKeepsJournalFormed : running.journal.Formed ∧ ∃ t, step running = .next t := ⟨by decide +kernel, _, rfl⟩

theorem witness_StepKeepsFaultLaw : running.faults.Formed ∧ ∃ t, step running = .next t :=
  ⟨by intro c; cases c <;> decide, _, rfl⟩

theorem witness_StepKeepsHaltedEmpty :
    (State.reset.HaltedEmpty ∧ State.reset.run.state = .halted) ∧ running.HaltedEmpty ∧ ∃ t, step running = .next t :=
  ⟨by decide +kernel, by decide +kernel, _, rfl⟩

theorem witness_StepKeepsListsFormed : running.ListsFormed ∧ ∃ t, step running = .next t := ⟨by decide +kernel, _, rfl⟩

theorem witness_FramesReadBack :
    (HostCommand.openCheck 4117 31 6 0 (some ⟨3, 24, List.replicate 23 5⟩)).wf = true ∧
      (UplinkMessage.present 25 99999999 2 100 token 4 9).good = true := by
  decide +kernel

theorem witness_FrameBytesActAsRow :
    (HostCommand.timeSet 64800).wf = true ∧ (HostCommand.timeSet 64800).body.length ≤ 1024 ∧ serving.live = true ∧
      serving.line.framer = .hunt ∧ serving.line.rx = [] ∧ serving.line.gapRunning = false := by
  decide +kernel

theorem witness_EvenDivisionIsAllocation :
    0 < 3 ∧ 2 < 3 ∧ (2 : Nat) < 5 ∧ 4 < 5 ∧
      ((lines.getD 1 (lines.getD 0 { price := 0, quantity := 0, taxClass := 0, seats := 0, voided := true })).seatsOf 6)[2]? = some 3 := by
  decide +kernel

theorem witness_AllocationSumsExactly :
    [0, 0].sum = 0 ∧ 0 < [2900, 2370, 0].sum ∧ [2900, 2370, 0][1]? = some 2370 ∧
      (∃ p, (allocate 728 [2900, 2370, 0])[1]? = some p) ∧ [2900, 2370, 0][2]? = some 0 := by
  refine ⟨by decide, by decide, by decide, ⟨_, by rfl⟩, by decide⟩

/-- A part served before another, by a greater remainder and by a tie. -/
theorem witness_AllocationSumsExactly_leftover :
    ((allocate 728 [2900, 2370, 0])[0]? = some (728 * 2900 / [2900, 2370, 0].sum + 1) ∧
      (allocate 728 [2900, 2370, 0])[1]? = some (728 * 2370 / [2900, 2370, 0].sum)) ∧
    ((allocate 1 [1, 1])[0]? = some (1 * 1 / [1, 1].sum + 1) ∧ (allocate 1 [1, 1])[1]? = some (1 * 1 / [1, 1].sum)) := by
  decide +kernel

/-- The lines, covers and groups of section 2.7, and their taxes and service allocated. -/
theorem witness_AllocationSumsExactly_uses :
    1 ≤ 6 ∧ (∀ b, b < 6 → (groups.filter fun g => g.getLsbD b).length = 1) ∧
      (allocate (computeTotals settings .auto 6 lines).t0 [2900, 2370, 3825]).sum = 728 := by
  decide +kernel

theorem witness_DuesSumToTotal :
    (1 ≤ 4) ∧ ([5000, 7000].length + 1 = 3 ∧ [5000, 7000].sum ≤ check4117.totals.d) ∧
      (1 ≤ 6 ∧ check4117.totals = computeTotals settings .auto 6 lines ∧
        (∀ b, b < 6 → (groups.filter fun g => g.getLsbD b).length = 1) ∧ groups[2]? = some (seatSet [3, 6])) ∧
      (3 < 4 ∧ 2 < 3) := by
  decide +kernel

theorem witness_DuesSumToTotal_seats : ∀ l ∈ lines, ∀ b, l.seats.getLsbD b = true → b < 6 := by
  have h : ∀ l ∈ lines, ∀ b, b < 32 → l.seats.getLsbD b = true → b < 6 := by decide +kernel
  intro l hl b hb
  exact h l hl b (BitVec.lt_of_getLsbD hb) hb

theorem witness_TotalsAndTips :
    (settings.serviceParty ≠ 0 ∧ settings.serviceParty ≤ 6) ∧ (5 < settings.serviceParty) ∧ ({} : Settings).serviceParty = 0 := by
  decide +kernel

theorem witness_HoldReleasePostBalance :
    check4117.Balanced ∧ (∀ x ∈ check4117.shares, x.number = 1 → 6613 ≤ x.openAmt) ∧ (check4117.hold 1 6613).Balanced ∧
      (∀ x ∈ (check4117.hold 1 6613).shares, x.number = 1 → 6613 ≤ x.held) := by
  decide +kernel

theorem witness_OpenCheckOpens :
    serving.takes 255 ∧ serving.run.state ≠ .halted ∧ (65535 : U16) ≠ 0 ∧ 1 ≤ (999 : U16).toNat ∧ (999 : U16).toNat ≤ 999 ∧
      1 ≤ (24 : U8).toNat ∧ (24 : U8).toNat ≤ 24 ∧ ServiceMode.ofCode 2 = some .off ∧
      (some (⟨1, 24, []⟩ : PlanBytes)).all PlanBytes.wf = true ∧ planOfOption (some ⟨1, 24, []⟩) = some (.even 24) ∧
      serving.check 65535 = none ∧ serving.checks.length < 128 := by
  decide +kernel

theorem witness_OpenCheckOpens_plan :
    (SplitPlan.even 24).Valid 24 0 ∧ ¬(SplitPlan.byAmount 2 [1]).Valid 2 0 ∧ ¬(SplitPlan.bySeat [1]).Valid 2 0 ∧
      planOfOption (some ⟨3, 2, [1]⟩) = some (.byAmount 2 [1]) ∧ planOfOption (some ⟨2, 1, [1]⟩) = some (.bySeat [1]) := by
  refine ⟨(by decide : 1 ≤ 24 ∧ 24 ≤ 24), fun h => ?_, fun h => ?_, by decide +kernel, by decide +kernel⟩
  · exact absurd h.2.2.2 (by decide)
  · exact absurd (h.2.2.2 1 (by decide)) (by decide +kernel)

/-- Each field one step outside its range, a plan malformed in each way, a number in use, and a full table. -/
theorem witness_OpenCheckOpens_refused :
    (999 < (1000 : U16).toNat ∧ 24 < (25 : U8).toNat ∧ 2 < (3 : U8).toNat) ∧
      (([⟨4, 1, []⟩, ⟨1, 0, []⟩, ⟨1, 25, []⟩, ⟨2, 1, [0]⟩, ⟨2, 1, [seatSet [25]]⟩, ⟨3, 2, [100000000]⟩] : List PlanBytes).all
        fun b => b.wf && (planOfOption (some b)).isNone) = true ∧
      (3 < (4 : U8).toNat ∧ 24 < (25 : U8).toNat ∧ ((seatSet [25]).getLsbD 24 = true ∧ 24 ≤ 24) ∧ 99999999 < (100000000 : U32).toNat) ∧
      (banquet.takes 4 ∧ (banquet.check 4117).isSome = true ∧ planOfOption none = some .whole) ∧
      (let s : State := { serving with checks := List.replicate 128 check4117 }
       s.takes 4 ∧ s.check 9 = none ∧ 128 ≤ s.checks.length) := by
  decide +kernel

theorem witness_ChangesTaken :
    (changeAsked (.addItem 4 4117 2000000 1 3 0) = some (0x02, 4, 4117, .addItem 2000000 1 3 0) ∧
      changeAsked (.voidItem 4 4117 4) = some (0x03, 4, 4117, .voidItem 4) ∧
      changeAsked (.setSplit 4 4117 ⟨0, 0, []⟩) = some (0x04, 4, 4117, .setSplit .whole) ∧
      changeAsked (.setCovers 4 4117 24) = some (0x05, 4, 4117, .setCovers 24)) ∧
    (banquet.takes 4 ∧ banquet.line.places < 50 ∧ banquet.run.state ≠ .halted ∧ banquet.check 4117 = some check4117 ∧
      check4117.parked = none ∧ check4117.inPool = 0 ∧ check4117.rested.2 = []) ∧
    (one.takes 4 ∧ one.run.state ≠ .halted ∧ ((one.check 4117).map Check.parked) = some none ∧
      (one.check 4117).map Check.inPool = some 1) ∧
    (∀ ch ∈ [Change.addItem 2000000 1 3 0, .voidItem 4, .setSplit .whole, .setCovers 24],
      (applyChange settings 4092 check4117 ch).isOk = true) ∧
    linesFree banquet.checks = 4092 ∧ linesFree one.checks = 4092 ∧
    (applyChange settings 4092 { check4117.hold 1 6613 with state := .tendering } (.setCovers 24)).isOk = true :=
  ⟨by decide +kernel, by decide +kernel, by decide +kernel, by decide +kernel, by decide +kernel, by decide +kernel, by decide +kernel⟩

/-- The refusals of a check change: a parameter outside its range, no such check, a change parked, a failing trial. -/
theorem witness_ChangesTaken_refused :
    (checkCommand (.setCovers 4 4117 25) = some (0x05, 4) ∧ (2 ≤ (0x05 : U8).toNat ∧ (0x05 : U8).toNat ≤ 5) ∧
      checkCommand (.setSplit 4 4117 ⟨4, 1, []⟩) = some (0x04, 4)) ∧
    (∀ i ∈ [Instr.addItem 4 0 5 1 0 0, .addItem 4 4117 2000001 1 0 0, .addItem 4 4117 5 0 0 0, .addItem 4 4117 5 100 0 0,
      .addItem 4 4117 5 1 4 0, .addItem 4 4117 5 1 0 (seatSet [25]), .voidItem 4 4117 0, .voidItem 4 4117 97,
      .setSplit 4 4117 ⟨4, 1, []⟩, .setCovers 4 4117 0, .setCovers 4 4117 25], changeAsked i = none) ∧
    (banquet.takes 4 ∧ banquet.run.state ≠ .halted ∧ banquet.check 4118 = none ∧
      changeAsked (.voidItem 4 4118 4) = some (0x03, 4, 4118, .voidItem 4)) ∧
    (parking.takes 4 ∧ parking.run.state ≠ .halted ∧ parking.check 4117 = some parkedCheck ∧ parkedCheck.parked.isSome = true) ∧
    (∀ ch ∈ [Change.addItem 2000000 99 0 0, .voidItem 5, .setCovers 2],
      (applyChange settings (linesFree banquet.checks) check4117 ch).isOk = false) := by
  refine ⟨by decide +kernel, by decide +kernel, by decide +kernel, by decide +kernel, by decide +kernel⟩

/-- No seat of a set lies outside the covers. -/
theorem none_above (v : U32) (n : Nat) (h : ∀ b, b < 32 → v.getLsbD b = true → b < n) : ¬∃ b, v.getLsbD b = true ∧ n ≤ b := by
  rintro ⟨b, hb, hn⟩
  exact absurd (h b (BitVec.lt_of_getLsbD hb) hb) (by omega)

/-- Lists are tested element by element: `decide` would run through all values of a bit vector. -/
theorem forall_of_all {α : Type} {p : α → Prop} [DecidablePred p] {l : List α} (h : (l.all fun x => decide (p x)) = true) :
    ∀ x ∈ l, p x := by
  simpa using h

/-- ADD ITEM: a seat outside, none outside, the lines full, the trial over the limit, short, and good. -/
theorem witness_ChangesTested_addItem :
    (∃ b, (seatSet [7]).getLsbD b = true ∧ 6 ≤ b) ∧ (¬∃ b, (seatSet [6]).getLsbD b = true ∧ 6 ≤ b) ∧
    (check4117.lines.length < 96 ∧ 0 < 1) ∧
    96 ≤ ({ check4117 with lines := (List.replicate 24 lines).flatten } : Check).lines.length ∧
    99999999 < (computeTotals settings .auto 6 (lines ++
      [{ price := 2000000, quantity := 99, taxClass := 0, seats := 0, voided := false }])).d ∧
    ((computeTotals settings .auto 6
      (lines ++ [{ price := 1100, quantity := 1, taxClass := 0, seats := 0, voided := false }])).d = 21720 ∧ 21720 < [21721].sum) ∧
    check4117.begun = false ∧ { check4117 with begun := true }.begun = true := by
  refine ⟨⟨6, by decide +kernel⟩, none_above _ _ (by decide +kernel), ?_⟩
  decide +kernel

/-- VOID ITEM: lines 0 and 5 of four, the last line, and a line already voided. -/
theorem witness_ChangesTested_voidItem :
    check4117.lines.length < 5 ∧
    (check4117.lines = lines.take 3 ++ { price := 3825, quantity := 1, taxClass := 0, seats := seatSet [3], voided := false } :: [] ∧
      4 = (lines.take 3).length + 1) ∧
    (let voided : LineEntry := { price := 5, quantity := 1, taxClass := 0, seats := 0, voided := true }
     ({ check4117 with lines := lines ++ [voided] } : Check).lines = lines ++ voided :: [] ∧ 5 = lines.length + 1) := by
  decide +kernel

/-- SET SPLIT: each form at the boundary of its range, and an even plan beyond it. -/
theorem witness_ChangesTested_setSplit :
    (1 ≤ 24 ∧ 24 ≤ 24) ∧ ¬(1 ≤ 25 ∧ 25 ≤ 24) ∧ (1 ≤ groups.length ∧ groups.length ≤ check4117.covers) ∧
    (∀ g ∈ groups, g ≠ 0 ∧ ¬∃ b, g.getLsbD b = true ∧ check4117.covers ≤ b) ∧
    (∀ b, b < check4117.covers → (groups.filter fun g => g.getLsbD b).length = 1) ∧
    ((∀ v ∈ [20334], v ≤ 99999999) ∧ [20334].sum ≤ check4117.totals.d) := by
  refine ⟨by decide, by decide, by decide +kernel, ?_, by decide +kernel, by decide +kernel⟩
  have h : ∀ g ∈ groups, g ≠ 0 ∧ ∀ b, b < 32 → g.getLsbD b = true → b < check4117.covers := forall_of_all (by decide +kernel)
  exact fun g hg => ⟨(h g hg).1, none_above _ _ (h g hg).2⟩

/-- SET COVERS: 2 leaves a seat of a line outside; 24 leaves none, and its new seats join the last group. -/
theorem witness_ChangesTested_setCovers :
    (∃ l ∈ check4117.lines, ∃ b, l.seats.getLsbD b = true ∧ 2 ≤ b) ∧
    (∀ l ∈ check4117.lines, ¬∃ b, l.seats.getLsbD b = true ∧ 24 ≤ b) ∧
    (∀ g ∈ groups, ¬∃ b, g.getLsbD b = true ∧ 24 ≤ b) ∧ check4117.plan = .bySeat (groups.take 2 ++ [seatSet [3, 6]]) ∧
    (∀ b, b < 32 → (seatSet ([3, 6] ++ (List.range 18).map (· + 7))).getLsbD b =
      ((seatSet [3, 6]).getLsbD b || decide (check4117.covers ≤ b ∧ b < 24))) ∧
    ∀ g, ({ check4117 with plan := .whole } : Check).plan ≠ .bySeat g := by
  refine ⟨⟨{ price := 3825, quantity := 1, taxClass := 0, seats := seatSet [3], voided := false }, by decide +kernel, 2,
    by decide +kernel⟩, ?_, ?_, by decide +kernel, by decide +kernel, nofun⟩
  · have h : ∀ l ∈ check4117.lines, ∀ b, b < 32 → l.seats.getLsbD b = true → b < 24 := by decide +kernel
    exact fun l hl => none_above _ _ (h l hl)
  · have h : ∀ g ∈ groups, ∀ b, b < 32 → g.getLsbD b = true → b < 24 := forall_of_all (by decide +kernel)
    exact fun g hg => none_above _ _ (h g hg)

theorem witness_CloseAndVoidFree :
    banquet.takes 4 ∧ banquet.run.state ≠ .halted ∧ (4117 : U16) ≠ 0 ∧ banquet.check 4117 = some check4117 ∧ check4117.inPool = 0 ∧
      check4117.begun = false ∧ (banquet.slot 3).mode = .routed (.bound 4117) ∧
      ({ check4117 with state := .settled } : Check).state = .settled ∧
      ((newCheck settings 90 1 2 .off .whole).state = .opened ∧ (newCheck settings 90 1 2 .off .whole).totals.d = 0) ∧
      (let s := banquet.withSlot 3 { boundSlot with mode := .probe (.bound 4117) }
       s.takes 4 ∧ s.check 4117 = some check4117 ∧ (s.slot 3).mode = .probe (.bound 4117) ∧ (s.slot 0).mode = .routed .idle) := by
  decide +kernel

/-- The refusals: a check not in use, tenders in the pool, open with lines, payment begun. -/
theorem witness_CloseAndVoidFree_refused :
    (banquet.takes 4 ∧ banquet.check 4118 = none) ∧ (one.takes 4 ∧ one.run.state ≠ .halted ∧ one.check 4117 = some check1 ∧
      0 < check1.inPool) ∧
      (check4117.inPool = 0 ∧ ¬(check4117.state = .settled ∨ (check4117.state = .opened ∧ check4117.totals.d = 0))) ∧
      (let c : Check := { check4117 with begun := true, state := .tendering }
       let s : State := { banquet with checks := [c] }
       s.takes 4 ∧ s.check 4117 = some c ∧ c.inPool = 0 ∧ c.begun = true ∧
         ¬(c.state = .settled ∨ (c.state = .opened ∧ c.totals.d = 0))) := by
  decide +kernel

theorem witness_HaltedRefusesCheckCommands :
    checkCommand (.openCheck 4 7 5 2 0 none) = some (0x01, 4) ∧ checkCommand (.addItem 4 7 5 2 0 0) = some (0x02, 4) ∧
      checkCommand (.voidItem 4 7 5) = some (0x03, 4) ∧ checkCommand (.setSplit 4 7 ⟨0, 0, []⟩) = some (0x04, 4) ∧
      checkCommand (.setCovers 4 7 5) = some (0x05, 4) ∧ checkCommand (.checkQuery 4 7 .summary 0) = some (0x06, 4) ∧
      checkCommand (.closeCheck 4 7) = some (0x07, 4) ∧ checkCommand (.voidCheck 4 7) = some (0x08, 4) ∧ halted.takes 4 ∧
      halted.run.state = .halted := by
  decide +kernel

theorem witness_StatusQueriesReport :
    serving.takes 4 ∧ (1 ≤ (26 : U8).toNat ∧ (26 : U8).toNat ≤ 26) ∧ 26 < (27 : U8).toNat := by decide +kernel

theorem witness_ListQueriesReport :
    one.takes 4 ∧ one.tenders.find 1301 = some (tender 0 1301 1 3 6613 0 false) ∧
      (serving.tenders.find 7 = none ∧ ({ pool := [], closed := [⟨7, 4117, 1, 3, .posted, 9⟩], lastId := 7 } : TenderPool).findClosed 7 =
        some ⟨7, 4117, 1, 3, .posted, 9⟩) ∧
      (one.tenders.find 7 = none ∧ one.tenders.findClosed 7 = none) ∧ (1 ≤ (64 : U32).toNat ∧ (64 : U32).toNat ≤ 64) ∧
      64 < (65 : U32).toNat ∧ (63 : U8).toNat < 64 ∧ 64 ≤ (64 : U8).toNat ∧ one.run.state ≠ .halted ∧
      banquet.check 4117 = some check4117 ∧ (1 ≤ (96 : U8).toNat ∧ (96 : U8).toNat ≤ 96) ∧
      QueryPart.lines.wf = true ∧ QueryPart.summary.wf = true ∧ 96 < (97 : U8).toNat ∧ (0 : U8).toNat < 1 ∧ one.check 4118 = none := by
  decide +kernel

theorem witness_TenderIdsAndEntries :
    let p : TenderPool := { pool := [tender 0 65535 1 3 5 0 false], closed := [⟨1, 4117, 1, 3, .posted, 9⟩], lastId := 65535 }
    let q : TenderPool := { pool := [tender 0 65535 1 3 5 0 false], closed := [], lastId := 65534 }
    (p.pool.length < 48 ∧ p.closed.length ≤ 16 ∧ p.nextId = 2 ∧ 0 < p.freeEntry) ∧
      (q.pool.length < 48 ∧ q.closed.length ≤ 16 ∧ q.nextId = 1) := by
  decide +kernel

theorem witness_PresentRefused :
    (UplinkMessage.present 25 0 0 0 token 1 9).good = true ∧ banquet.quietSlot 3 ∧
      (banquet.slot 3).mode = .routed (.bound 4117) ∧ intakeRefusal banquet 3 25 = some .noShare := by
  decide +kernel

/-- Each of the nine reasons of R49 is the first failing test of some state. -/
theorem witness_PresentRefused_reasons :
    intakeRefusal halted 3 1 = some .notServing ∧
    intakeRefusal { banquet with run := { banquet.run with hold := true } } 3 1 = some .hold ∧
    intakeRefusal (banquet.withSlot 3 { boundSlot with mode := .probe (.bound 4117) }) 3 1 = some .notAssigned ∧
    intakeRefusal one 3 2 = some .slotBusy ∧
    intakeRefusal { banquet with checks := [{ check4117 with state := .barrier }] } 3 1 = some .barrier ∧
    intakeRefusal banquet 3 4 = some .noShare ∧ intakeRefusal one 17 1 = some .nothingDue ∧
    intakeRefusal { banquet with tenders := { banquet.tenders with
      pool := List.replicate 8 (tender 0 1301 1 5 6613 0 false) } } 3 1 = some .checkBusy ∧
    intakeRefusal { banquet with tenders := { banquet.tenders with
      pool := List.replicate 48 { tender 0 1301 1 5 6613 0 false with check := 9 } } } 3 1 = some .poolFull := by
  decide +kernel

theorem witness_PresentIssuesOnline :
    (UplinkMessage.present 3 4000 1 3500 token 1 13).good = true ∧ banquet.quietSlot 33 ∧ EntryMethod.ofCode 1 = some .chip ∧
      (banquet.slot 33).mode = .routed (.bound 4117) ∧ banquet.check 4117 = some check4117 ∧
      check4117.share 3 = some { number := 3, group := seatSet [3, 6], due := 7776, openAmt := 7776, tipBase := 6091 } ∧
      intakeRefusal banquet 33 3 = none ∧ banquet.line.places < 50 ∧ banquet.uplink.state = .up := by
  decide +kernel

/-- The banquet with the uplink DOWN. -/
def offline : State := { banquet with uplink := { Uplink.start with nextForward := 51 } }

theorem witness_PresentStoredOffline :
    (UplinkMessage.present 3 4300 0 0 token 2 13).good = true ∧ offline.quietSlot 33 ∧ EntryMethod.ofCode 2 = some .tap ∧
      (offline.slot 33).mode = .routed (.bound 4117) ∧ offline.check 4117 = some check4117 ∧
      check4117.share 3 = some { number := 3, group := seatSet [3, 6], due := 7776, openAmt := 7776, tipBase := 6091 } ∧
      intakeRefusal offline 33 3 = none ∧ offline.uplink.state = .down ∧ offlineReason offline .tap 10000 = none ∧
      (settleTip 50 6091 4300 7776 0 0).1 = 0 ∧
      (offline.store.current = none ∧ offline.store.waiting = [] ∧ offline.uplink.backlog = []) ∧
      ({ offline with store := { offline.store with
        current := some { request := .free 9, unit := .nothing } } } : State).store.current.isSome = true := by
  decide +kernel

/-- An empty room for the append, and a store with none. -/
theorem witness_PresentStoredOffline_rooms :
    offline.store.rooms[(63 : Fin 64)] = .empty none ∧
      ∀ room : Fin 64, (Vector.replicate 64 (Room.copy (entry 9 1 5 .unsent) 10))[room] = .copy (entry 9 1 5 .unsent) 10 := by
  decide +kernel

/-- A free backlog, with the store idle and behind a write in progress. -/
theorem witness_PresentStoredOffline_backlog :
    let s : State := { offline with uplink := { offline.uplink with backlog := [49, 50] } }
    let busy : State := { s with store := { s.store with
      current := some { request := .append (entry 48 1300 5 .storing) 49, unit := .nothing } } }
    s.quietSlot 33 ∧ intakeRefusal s 33 3 = none ∧ offlineReason s .tap 10000 = none ∧ s.store.current = none ∧
      busy.quietSlot 33 ∧ intakeRefusal busy 33 3 = none ∧ offlineReason busy .tap 10000 = none ∧
      busy.store.current.isSome = true ∧ busy.store.waiting.any StoreRequest.isFree = false ∧ busy.store.waiting.length + 1 < 8 := by
  decide +kernel

theorem witness_PresentDeclinedOffline :
    (UplinkMessage.present 3 4300 0 0 token 4 13).good = true ∧ offline.quietSlot 33 ∧ EntryMethod.ofCode 4 = some .keyed ∧
      (offline.slot 33).mode = .routed (.bound 4117) ∧ offline.check 4117 = some check4117 ∧
      (∀ x ∈ check4117.share 3, (∀ y ∈ check4117.shares, y.number = 3 → y = x) ∧ x.due = x.paid + x.held + x.openAmt) ∧
      (check4117.share 3).isSome = true ∧ intakeRefusal offline 33 3 = none ∧ offline.uplink.state = .down ∧
      check4117.inPool = 0 ∧ check4117.parked = none ∧
      (∀ t ∈ offline.tenders.pool, t.check ≠ 4117 ∧ t.id ≠ offline.tenders.nextId) ∧
      offlineReason offline .keyed 4300 = some .keyed ∧ offlineReason offline .tap 10001 = some .offlineLimit := by
  decide +kernel

/-- Another tender of the check in the pool; and a change parked with none. -/
theorem witness_PresentDeclinedOffline_others :
    (let s : State := { one with uplink := offline.uplink }
     s.quietSlot 33 ∧ (s.slot 33).mode = .routed (.bound 4117) ∧ s.check 4117 = some check1 ∧ (check1.share 3).isSome = true ∧
      intakeRefusal s 33 3 = none ∧ s.uplink.state = .down ∧ 0 < check1.inPool ∧
      (∀ t ∈ s.tenders.pool, t.id ≠ s.tenders.nextId) ∧ offlineReason s .keyed 4300 = some .keyed) ∧
    (let c : Check := { check4117 with parked := parkedCheck.parked }
     let s : State := { offline with checks := [c] }
     s.quietSlot 33 ∧ s.check 4117 = some c ∧ intakeRefusal s 33 3 = none ∧ c.inPool = 0 ∧
      s.line.places + (lastDeparture settings s.checks { c with state := .barrier }).notices.length ≤ 56) := by
  decide +kernel

/-- Check 4117 after the issues of steps 1 to 3 of section 10.3. -/
def check3 : Check := { ((check4117.hold 1 6613).hold 2 5945).hold 3 4000 with state := .tendering }

theorem witness_ApprovalWaitsItsTurn :
    three.takes 1 ∧ three.run.state ≠ .halted ∧ code.length = 6 ∧ code.all codeChar = true ∧ 0 < (6409 : U32).toNat ∧
      ¬((tender 1 1302 2 17 5945 464 false).part + (tender 1 1302 2 17 5945 464 false).tip < (6409 : U32).toNat) ∧
      three.tenders.find 1302 = some (tender 1 1302 2 17 5945 464 false) ∧
      three.tenders.issueHead 4117 = some (tender 0 1301 1 3 6613 0 false) ∧
      (tender 0 1301 1 3 6613 0 false).id ≠ (tender 1 1302 2 17 5945 464 false).id ∧
      (tender 0 1301 1 3 6613 0 false).state ≠ .ready ∧ three.check 4117 = some check3 ∧ (check3.share 2).isSome = true ∧
      (three.slot 17).mode ≠ .routed .muted ∧
      ((tender 1 1302 2 17 5945 464 false).part + (tender 1 1302 2 17 5945 464 false).tip < (6410 : U32).toNat ∧
        catches three.owe .overApproval ∧ (masked three).owe.admits .overApproval) := by
  decide +kernel

theorem witness_ApprovalPosts :
    let t := tender 0 1301 1 3 6613 0 false
    one.takes 1 ∧ one.run.state ≠ .halted ∧ code.length = 6 ∧ code.all codeChar = true ∧ 0 < (6613 : U32).toNat ∧
      ¬(t.part + t.tip < (6613 : U32).toNat) ∧ one.tenders.find 1301 = some t ∧ t.state = .awaiting ∧ t.cancelRequested = false ∧
      one.tenders.Splits t [] [] [] ∧ one.tenders.findClosed 1301 = none ∧ one.check 4117 = some check1 ∧ check1.inPool = 1 ∧
      (check1.share 1).isSome = true ∧ (one.slot 3).mode ≠ .routed .muted ∧
      one.line.places + (afterHead settings one.checks check1
        [{ t with ps := 6613, hold := 6613, code := code, state := .ready }] []).notices.length < 56 := by
  decide +kernel

/-- An approval above the requested, a change parked. -/
theorem witness_ApprovalPosts_parked :
    let t := tender 0 1301 1 3 6613 0 false
    let events := afterHead settings parking.checks parkedCheck
      [{ t with ps := 6613, hold := 6613, code := code, state := .ready }] []
    parking.takes 1 ∧ t.part + t.tip < (6614 : U32).toNat ∧ catches parking.owe .overApproval ∧ parking.tenders.find 1301 = some t ∧
      parking.tenders.Splits t [] [] [] ∧ parking.check 4117 = some parkedCheck ∧ parkedCheck.inPool = 1 ∧
      (parkedCheck.share 1).isSome = true ∧ parking.line.places + events.notices.length < 56 ∧
      events.records.map JournalRecord.kind = [.tenderPosted, .changeApplied] := by
  decide +kernel

/-- Section 10.3 after step 7: 1302 READY behind 1301, 1303 AWAITING behind both. -/
def ready1302 : Tender :=
  { tender 1 1302 2 17 5945 464 false with state := .ready, ps := 5000, pt := 0, hold := 5000, code := code }
def behind : State :=
  { three with tenders := { three.tenders with
    pool := [tender 0 1301 1 3 6613 0 false, ready1302, tender 2 1303 3 33 4000 1566 true] } }

theorem witness_ApprovalPosts_run :
    let t := tender 0 1301 1 3 6613 0 false
    let events := afterHead settings behind.checks check3
      [{ t with ps := 6613, hold := 6613, code := code, state := .ready }, ready1302] [tender 2 1303 3 33 4000 1566 true]
    behind.takes 1 ∧ behind.tenders.find 1301 = some t ∧
      behind.tenders.Splits t [] [ready1302] [tender 2 1303 3 33 4000 1566 true] ∧ behind.tenders.findClosed 1301 = none ∧
      behind.check 4117 = some check3 ∧ check3.inPool = 3 ∧ (check3.share 1).isSome = true ∧
      behind.line.places + events.notices.length < 56 ∧
      events.records.map JournalRecord.kind = [.tenderPosted, .tenderPosted] := by
  decide +kernel

theorem witness_DeclineEnds :
    let t := tender 0 1301 1 3 6613 0 false
    one.takes 1 ∧ one.run.state ≠ .halted ∧ code.length = 6 ∧ code.all codeChar = true ∧ one.tenders.find 1301 = some t ∧
      t.state = .awaiting ∧ one.tenders.Splits t [] [] [] ∧ one.tenders.findClosed 1301 = none ∧ one.check 4117 = some check1 ∧
      check1.inPool = 1 ∧ (one.slot 3).mode ≠ .routed .muted ∧
      (afterHead settings one.checks { check1.release 1 6613 with inPool := 0 } [] []).notices = [] := by
  decide +kernel

/-- An approval above the requested of a tender whose cancel was requested, a parked change behind it. -/
theorem witness_DeclineEnds_cancelled :
    let t := { tender 0 1301 1 3 6613 0 false with cancelRequested := true }
    let s : State := { parking with tenders := { parking.tenders with pool := [t] } }
    s.takes 1 ∧ t.cancelRequested = true ∧ s.tenders.find 1301 = some t ∧ t.part + t.tip < (6614 : U32).toNat ∧
      catches s.owe .overApproval ∧ s.tenders.Splits t [] [] [] ∧ s.check 4117 = some parkedCheck ∧ parkedCheck.inPool = 1 ∧
      (s.slot 3).mode ≠ .routed .muted ∧
      s.line.places + (reversalNotice t 6613 code .cancelled ::
        (afterHead settings s.checks { parkedCheck.release 1 6613 with inPool := 0 } [] []).notices).length < 56 := by
  decide +kernel

/-- A tender behind the head, and a head with a READY tender behind it. -/
theorem witness_DeclineEnds_places :
    (three.takes 1 ∧ three.tenders.find 1302 = some (tender 1 1302 2 17 5945 464 false) ∧
      three.tenders.Splits (tender 1 1302 2 17 5945 464 false) [tender 0 1301 1 3 6613 0 false] []
        [tender 2 1303 3 33 4000 1566 true] ∧
      three.tenders.findClosed 1302 = none ∧ three.check 4117 = some check3 ∧ check3.inPool = 3 ∧
      (three.slot 17).mode ≠ .routed .muted) ∧
    (behind.takes 1 ∧ behind.tenders.find 1301 = some (tender 0 1301 1 3 6613 0 false) ∧
      behind.tenders.Splits (tender 0 1301 1 3 6613 0 false) [] [ready1302] [tender 2 1303 3 33 4000 1566 true] ∧
      behind.line.places + (afterHead settings behind.checks { check3.release 1 6613 with inPool := 2 } [ready1302]
        [tender 2 1303 3 33 4000 1566 true]).notices.length < 56) := by
  decide +kernel

theorem witness_AnswersOutOfTurn :
    halted.takes 1 ∧ halted.run.state = .halted ∧ one.takes 1 ∧ one.run.state ≠ .halted ∧
      (0 : U8).toNat < 1 ∧ 3 < (4 : U8).toNat ∧ (1 ≤ (3 : U8).toNat ∧ (3 : U8).toNat ≤ 3) ∧
      (∀ f : FaultCode, f ∈ FaultCode.all → catches one.owe f ∧ (masked one).owe.admits f) ∧
      (tender 0 1301 1 3 6613 0 false).state ≠ .storing ∧ one.tenders.find 1300 = none ∧ one.tenders.findClosed 1300 = none ∧
      ({ pool := [], closed := [⟨7, 4117, 1, 3, .posted, 9⟩], lastId := 7 } : TenderPool).findClosed 7 =
        some ⟨7, 4117, 1, 3, .posted, 9⟩ := by
  decide +kernel

/-- The tender of section 10.3, step 1, at its expiry time. -/
def expired : State := { one with run := { one.run with clock := 75045 } }

theorem witness_ExpiryEnds :
    let t := tender 0 1301 1 3 6613 0 false
    (one.live = true ∧ one.tenders.find 1301 = some t ∧ one.run.clock < t.expiry ∧ one.run.clock ≠ 4294967295) ∧
      (expired.live = true ∧ expired.tenders.find 1301 = some t ∧ t.state = .awaiting ∧ t.expiry ≤ expired.run.clock ∧
        expired.tenders.Splits t [] [] [] ∧ expired.check 4117 = some check1 ∧ check1.inPool = 1 ∧
        (expired.slot 3).mode ≠ .routed .muted ∧ catches expired .authTimeout ∧
        min 255 (expired.uplink.count + 1) < expired.store.settings.autoDownCount ∧ expired.line.places + 1 ≤ 56 ∧
        (afterHead settings expired.checks { check1.release 1 6613 with inPool := 0 } [] []).notices = []) := by
  decide +kernel

/-- The expiry that reaches AUTO DOWN COUNT, with a parked change, and one of a head with a READY tender behind it. -/
theorem witness_ExpiryEnds_down :
    let t := tender 0 1301 1 3 6613 0 false
    (let s : State := { expired with
      checks := [parkedCheck], uplink := { expired.uplink with count := expired.store.settings.autoDownCount - 1 } }
     s.live = true ∧ s.tenders.find 1301 = some t ∧ t.expiry ≤ s.run.clock ∧ s.tenders.Splits t [] [] [] ∧
      s.check 4117 = some parkedCheck ∧ s.store.settings.autoDownCount ≠ 0 ∧ s.uplink.state = .up ∧
      s.store.settings.autoDownCount ≤ min 255 (s.uplink.count + 1) ∧ catches s .uplinkAutoDown ∧
      s.line.places + (reversalNotice t 0 noCode .timedOut ::
        (afterHead settings s.checks { parkedCheck.release 1 6613 with inPool := 0 } [] []).notices).length ≤ 56) ∧
    (let s : State := { behind with run := { behind.run with clock := 75045 } }
     s.live = true ∧ s.tenders.find 1301 = some t ∧ t.expiry ≤ s.run.clock ∧
      s.tenders.Splits t [] [ready1302] [tender 2 1303 3 33 4000 1566 true] ∧ s.check 4117 = some check3 ∧
      s.line.places + (reversalNotice t 0 noCode .timedOut :: (afterHead settings s.checks
        { check3.release 1 6613 with inPool := 2 } [ready1302] [tender 2 1303 3 33 4000 1566 true]).notices).length ≤ 56) := by
  decide +kernel

theorem witness_CancelRequested :
    one.quietSlot 3 ∧ (one.slot 3).mode = .routed (.bound 4117) ∧ (one.slot 17).inFlight = none ∧
      (one.slot 3).inFlight = some 1301 ∧ one.tenders.find 1301 = some (tender 0 1301 1 3 6613 0 false) ∧
      (tender 0 1301 1 3 6613 0 false).tag = 11 ∧ (tender 0 1301 1 3 6613 0 false).state = .awaiting ∧
      ({ tender 0 1301 1 3 6613 0 false with state := .ready } : Tender).state ≠ .awaiting := by
  decide +kernel

theorem witness_UplinkStateSet :
    serving.takes 1 ∧ 1 < (2 : U8).toNat ∧ serving.uplink.state = .up ∧ halted.uplink.state = .down ∧
      (∀ e ∈ [entry 51 1411 4300 .storing], e.state ≠ .unsent) ∧
      (let s : State := { halted with uplink := { halted.uplink with queue := [entry 51 1411 4300 .unsent] } }
       s.takes 1 ∧ s.uplink.state = .down ∧ ∃ e ∈ s.uplink.queue, e.state = .unsent) := by
  decide +kernel

/-- Two forward entries SENT, and a free in progress. -/
def forwarded : State :=
  { serving with
    uplink := { serving.uplink with
      queue := [entry 51 1411 4300 .sent, entry 52 1413 7750 .sent], exposure := 12050, nextForward := 53 }
    store := { serving.store with current := some { request := .free 50, unit := .nothing } } }

theorem witness_ForwardResultTaken :
    forwarded.takes 1 ∧ forwarded.line.places < 50 ∧ (2 < (3 : U8).toNat ∧ (0 : U8).toNat < 1) ∧ catches forwarded.owe .noEntry ∧
      (∀ e ∈ forwarded.uplink.queue, e.number = 60 → e.state ≠ .sent) ∧
      forwarded.uplink.sentEntry 51 = some (entry 51 1411 4300 .sent) ∧ (∀ f ∈ forwarded.uplink.queue, f.state ≠ .unsent) ∧
      forwarded.store.current = some { request := .free 50, unit := .nothing } ∧ forwarded.store.freeListed = true ∧
      forwarded.faults.captures .forwardRejected ∧
      -- an UNSENT entry waits
      (let u : Uplink := { forwarded.uplink with queue := forwarded.uplink.queue ++ [entry 53 1414 900 .unsent] }
       u.sentEntry 51 = some (entry 51 1411 4300 .sent) ∧ ∃ f ∈ u.queue, f.state = .unsent) ∧
      -- a write in progress with no free in the list, and an idle store
      (let s : State := { forwarded with store := { serving.store with
         current := some { request := .append (entry 53 1414 900 .storing) 54, unit := .nothing } } }
       s.takes 1 ∧ s.store.current.isSome = true ∧ s.store.freeListed = false ∧ s.store.waiting.length < 8) ∧
      (let s : State := { forwarded with store := serving.store }
       s.takes 1 ∧ s.store.current = none ∧ s.store.waiting = [] ∧ s.uplink.backlog = [] ∧
         ({ s.store with rooms := s.store.rooms.set 0 (.copy (entry 51 1411 4300 .sent) 52) } : SettingStore).rooms[(0 : Fin 64)] =
           .copy (entry 51 1411 4300 .sent) 52) := by
  decide +kernel

theorem witness_ForwardRestarts :
    (offline.takes 1 ∧ offline.uplink.state = .down) ∧
      (let s : State := { serving with
        uplink := { serving.uplink with
          queue := [entry 51 1411 4300 .storing, entry 52 1413 7750 .unsent, entry 53 1414 900 .sent, entry 54 1415 800 .unsent] }
        store := { serving.store with settings := { settings with forwardWindow := 2 } } }
       s.takes 1 ∧ s.uplink.state = .up ∧ (s.uplink.queue.map ForwardEntry.number).Nodup ∧ s.line.places + 1 ≤ 56 ∧
         (s.uplink.queue.filter fun e : ForwardEntry => e.state == ForwardState.sent).length = 1) := by
  decide +kernel

theorem witness_SettingWritePlaced :
    (serving.takes 1 ∧ serving.run.state ≠ .halted) ∧ (halted.takes 1 ∧ halted.run.state = .halted) ∧ ¬ (1 ≤ 0) ∧ ¬ (27 ≤ 26) ∧
      (List.replicate 8 StoreRequest.powerOnSettings).length = 8 ∧ halted.store.waiting.length < 8 ∧ halted.uplink.backlog = [] ∧
      halted.store.current = none ∧ halted.store.waiting = [] ∧ halted.store.first.map SettingsCopy.count = some 1 ∧
      halted.store.second.map SettingsCopy.count = some 2 ∧ (20, 1, 4096) ∈ [(19, 0, 7), (20, 1, 4096)] := by
  decide +kernel

/-- A setting write of a command in progress: JOURNAL BASE to 6. -/
def writing : State :=
  { halted with
    store := { halted.store with current := some {
      request := .setting 4 18 6 6, unit := .settings true { count := 3, settings := { settings with journalBase := 6 } } } }
    line := { halted.line with owed := 1 } }

theorem witness_SettingWriteEnds :
    writing.powered = true ∧
      writing.store.current = some {
        request := .setting 4 18 6 6, unit := .settings true { count := 3, settings := { settings with journalBase := 6 } } } ∧
      (1 ≤ 18 ∧ 18 ≤ 26) ∧ catches writing .storeWriteFail ∧ (masked writing).admits .storeWriteFail ∧
      -- the write of power-on
      (let s : State := { writing with store := { writing.store with current := some {
        request := .powerOnSettings, unit := .settings false { count := 3, settings := settings } } } }
       s.powered = true ∧ catches s .storeWriteFail ∧ s.store.current = some {
         request := .powerOnSettings, unit := .settings false { count := 3, settings := settings } }) ∧
      (startWriting.powered = true ∧ startWriting.journal.results[(7 : Fin 8)] = .untested ∧ startWriting.run.lastReset = none) ∧
      18 ≠ 13 ∧ (settings.lineEnabled 3 = true ∧ (settings.put 17 0).lineEnabled 3 = false) := by
  decide +kernel

/-- A write of FORWARD WINDOW in progress, an entry waiting to be sent. -/
theorem witness_SettingWriteEnds_window :
    let s : State := { writing with
      uplink := { serving.uplink with queue := [entry 51 1411 4300 .unsent] }
      store := { writing.store with current := some {
        request := .setting 4 13 8 9, unit := .settings false { count := 3, settings := settings.put 13 8 } } } }
    s.powered = true ∧ 1 ≤ 13 ∧ 13 ≤ 26 ∧
      (s.forwardEntries.line.queue.drop s.line.queue.length).map Frame.kind = [0xC7] := by
  decide +kernel

/-- A forward append in progress, its tender in the pool behind another. -/
def appending : State :=
  let e := entry 51 1302 6409 .storing
  { three with
    uplink := { three.uplink with state := .down, queue := [e], exposure := 6409, nextForward := 52 }
    tenders := { three.tenders with pool := [tender 0 1301 1 3 6613 0 false,
      { tender 1 1302 2 17 5945 464 false with state := .storing, forward := 51 }] }
    store := { three.store with current := some { request := .append e 52, unit := .room 63 (.copy e 52) } } }

theorem witness_AppendEnds :
    let e := entry 51 1302 6409 .storing
    let t : Tender := { tender 1 1302 2 17 5945 464 false with state := .storing, forward := 51 }
    let unit : StoreUnit := .room 63 (.copy e 52)
    appending.powered = true ∧ appending.store.current = some { request := .append e 52, unit := unit } ∧
      appending.uplink.queue.find? (fun x => x.number == e.number) = some e ∧ appending.tenders.find 1302 = some t ∧
      appending.tenders.issueHead 4117 = some (tender 0 1301 1 3 6613 0 false) ∧
      (tender 0 1301 1 3 6613 0 false).state ≠ .ready ∧ (appending.slot 17).mode ≠ .routed .muted ∧
      ({ appending with tenders := TenderPool.start } : State).tenders.find 1302 = none ∧ catches appending .storeWriteFail ∧
      ({ appending with uplink := { appending.uplink with queue := [] } } : State).uplink.queue.find?
        (fun x => x.number == e.number) = none ∧
      -- the failure, the tender in the pool behind another
      (appending.tenders.Splits t [tender 0 1301 1 3 6613 0 false] [] [] ∧
        appending.check 4117 = some check3 ∧ ({ check3 with inPool := 2 } : Check).inPool = 2) := by
  decide +kernel

theorem witness_AppendEnds_unit : ∀ first copy, StoreUnit.room 63 (.copy (entry 51 1302 6409 .storing) 52) ≠ .settings first copy ∧
    StoreUnit.nothing ≠ .settings first copy := fun _ _ => ⟨nofun, nofun⟩

/-- The append of the only tender of its check, and of a head with a READY tender behind it. -/
theorem witness_AppendEnds_head :
    let e := entry 51 1301 6613 .storing
    let t : Tender := { tender 0 1301 1 3 6613 0 false with state := .storing, forward := 51 }
    let t' : Tender := { t with state := .ready, ps := t.part, pt := t.tip, deferred := true }
    let up : Uplink := { Uplink.start with queue := [e], exposure := 6613, nextForward := 52 }
    let store : SettingStore := { one.store with current := some { request := .append e 52, unit := .room 63 (.copy e 52) } }
    (let s : State := { one with uplink := up, store := store, tenders := { one.tenders with pool := [t] } }
     s.powered = true ∧ s.uplink.queue.find? (fun x => x.number == e.number) = some e ∧ s.tenders.find 1301 = some t ∧
      s.tenders.Splits t [] [] [] ∧ s.check 4117 = some check1 ∧ check1.inPool = 1 ∧ catches s .storeWriteFail ∧
      s.line.places + (afterHead settings s.checks check1 [t'] []).notices.length ≤ 56 ∧
      s.line.places + (afterHead settings s.checks { check1.release 1 6613 with inPool := 0 } [] []).notices.length ≤ 56) ∧
    (let s : State := { behind with
      uplink := up, store := store
      tenders := { behind.tenders with pool := [t, ready1302, tender 2 1303 3 33 4000 1566 true] } }
     s.powered = true ∧ s.uplink.queue.find? (fun x => x.number == e.number) = some e ∧ s.tenders.find 1301 = some t ∧
      s.tenders.Splits t [] [ready1302] [tender 2 1303 3 33 4000 1566 true] ∧ s.check 4117 = some check3 ∧ check3.inPool = 3 ∧
      catches s .storeWriteFail ∧
      s.line.places + (afterHead settings s.checks check3 [t', ready1302] [tender 2 1303 3 33 4000 1566 true]).notices.length ≤ 56) := by
  decide +kernel

/-- A forward free in progress, with another number behind it. -/
def freeing (rest : List Nat) : State :=
  { serving with
    uplink := { serving.uplink with backlog := 51 :: rest }
    store := { serving.store with
      rooms := serving.store.rooms.set 0 (.copy (entry 51 1411 4300 .sent) 52)
      current := some { request := .free 51, unit := .room 0 (.empty (some 53)) } } }

theorem witness_FreeEnds :
    (freeing []).powered = true ∧
      (freeing []).store.current = some { request := .free 51, unit := .room 0 (.empty (some 53)) } ∧
      (freeing []).uplink.backlog = 51 :: [] ∧ (freeing [52]).uplink.backlog = 51 :: 52 :: [] ∧
      catches (freeing []) .storeWriteFail := by
  decide +kernel

theorem witness_RadioFramesGated :
    halted.run.state = .halted ∧ ({ serving with powered := false } : State).live = false ∧
      ({ serving with store := { serving.store with settings := { settings with lineEnable3 := false } } } : State).slotEnabled 63 =
        false ∧
      (serving.live = true ∧ serving.slotEnabled 63 = true ∧ serving.run.state ≠ .halted ∧
        (UplinkMessage.ack 0).good = true ∧ (UplinkMessage.present 26 0 0 0 token 1 9).good = false ∧
        catches serving .radioFrameBad ∧ goodUplink [0x02, 0, 0] = none) := by
  decide +kernel

theorem witness_WakeTaken :
    serving.quietSlot 0 ∧ (idOf "HH-0107").length = 8 ∧ serving.line.places < 50 ∧ (serving.slot 0).mode = .routed .idle ∧
      (banquet.quietSlot 3 ∧ (banquet.slot 3).mode = .routed (.bound 4117) ∧ banquet.check 4117 = some check4117) ∧
      (let s := serving.withSlot 63 { SlotEntry.start with mode := .routed .muted }
       s.quietSlot 63 ∧ (s.slot 63).mode = .routed .muted) ∧
      (let s := serving.withSlot 63 { SlotEntry.start with mode := .routed (.message (text32 ['H', 'I'])) }
       s.quietSlot 63 ∧ (s.slot 63).mode = .routed (.message (text32 ['H', 'I']))) ∧
      (let s := serving.withSlot 63 { SlotEntry.start with mode := .probe .idle }
       s.quietSlot 63 ∧ (s.slot 63).mode = .probe .idle) := by
  decide +kernel

theorem witness_TerminalFramesTaken :
    (UplinkMessage.present 1 0 0 0 token 1 9).good = true ∧
      (banquet.quietSlot 3 ∧ (banquet.slot 3).mode = .routed (.bound 4117) ∧ banquet.check 4117 = some check4117) ∧
      (banquet.quietSlot 0 ∧ (banquet.slot 0).mode = .routed .idle) ∧
      (let s := serving.withSlot 63 { SlotEntry.start with mode := .routed .muted }
       s.quietSlot 63 ∧ (s.slot 63).mode = .routed .muted) ∧
      (let s := serving.withSlot 63 { SlotEntry.start with mode := .probe .idle }
       s.quietSlot 63 ∧ (s.slot 63).mode = .probe .idle) ∧
      (let e : SlotEntry := { boundSlot with
        outcome := some (255, { kind := .refused, tag := 1 }), display := some (254, .text textCheck 4117 31) }
       let s := banquet.withSlot 3 e
       s.quietSlot 3 ∧ (s.slot 3).mode ≠ .routed .muted ∧
         (s.slot 3).outcome = some ((255 : U8).toNat, { kind := .refused, tag := 1 }) ∧
         (s.slot 3).outcome.map Prod.fst ≠ some (254 : U8).toNat ∧
         (s.slot 3).display = some ((254 : U8).toNat, .text textCheck 4117 31) ∧
         (s.slot 3).outcome.map Prod.fst ≠ some (1 : U8).toNat ∧ (s.slot 3).display.map Prod.fst ≠ some (1 : U8).toNat) := by
  decide +kernel

/-- Slot 3 in PROBE, its echo turn open. -/
def probing : State :=
  banquet.withSlot 3 { boundSlot with
    mode := .probe (.bound 4117), framesToSend := 2, framesSent := 1, armed := true, echoDue := some (BitVec.allOnes 15)
    pattern := lfsrAfter 256 (BitVec.allOnes 15) }

theorem witness_EchoTurnsCounted :
    probing.hears 3 = true ∧ (probing.slot 3).presence ≠ .lost ∧ (List.replicate 32 (0 : U8)).length = 32 ∧
      (probing.slot 3).echoDue = some (BitVec.allOnes 15) ∧ (UplinkMessage.pick).kind ≠ 0x06 ∧
      (banquet.hears 3 = true ∧ (banquet.slot 3).echoDue = none) := by
  decide +kernel

theorem witness_PresenceMoves :
    banquet.live = true ∧ banquet.slotEnabled 3 = true ∧ banquet.line.places < 50 ∧ (banquet.slot 0).presence = .absent ∧
      ((banquet.slot 3).presence = .present ∧ (banquet.slot 3).mode = .routed (.bound 4117)) ∧
      ((probing.slot 3).presence = .present ∧ (probing.slot 3).mode = .probe (.bound 4117)) ∧
      (let s := banquet.withSlot 3 { boundSlot with presence := .lost }
       s.live = true ∧ s.slotEnabled 3 = true ∧ (s.slot 3).presence = .lost ∧ s.run.state ≠ .halted ∧
         (UplinkMessage.ack 1).good = true ∧ (UplinkMessage.ack 1).kind ≠ 0x01 ∧ (s.slot 3).echoDue = none) := by
  decide +kernel

theorem witness_DownlinkTurnSends :
    banquet.live = true ∧ halted.run.state = .halted ∧
      (banquet.slotEnabled 3 = true ∧ banquet.run.state ≠ .halted ∧ (banquet.slot 3).mode ≠ .routed .muted) ∧
      ((probing.slot 3).mode = .probe (.bound 4117) ∧ (probing.slot 3).armed = true ∧
        (probing.slot 3).framesSent < (probing.slot 3).framesToSend ∧ (probing.slot 3).sentNow = none) ∧
      ((banquet.slot 3).presence = .present ∧ (banquet.slot 3).mode = .routed (.bound 4117) ∧ (banquet.slot 3).outcome = none ∧
        (banquet.slot 3).display = none) ∧
      (banquet.slot 0).presence ≠ .present ∧ (banquet.slot 0).mode ≠ .routed .muted := by
  decide +kernel

theorem witness_BoundaryMarks :
    ({ serving with powered := false } : State).powered = false ∧ probing.powered = true ∧
      (probing.slot 3).mode = .probe (.bound 4117) ∧ ¬ ((probing.slot 3).framesSent = (probing.slot 3).framesToSend) ∧
      (let e := { probing.slot 3 with framesSent := 2 }
       e.armed = true ∧ e.framesSent = e.framesToSend ∧ e.sentNow = none) ∧ (probing.slot 0).mode = .routed .idle := by
  decide +kernel

/-- A probe that has sent all its frames, its result queued. -/
theorem witness_BoundaryMarks_done :
    let e := { probing.slot 3 with framesSent := 2 }
    let s := probing.withSlot 3 e
    s.powered = true ∧ (s.slot 3).mode = .probe (.bound 4117) ∧
      (e.probing && e.armed && e.framesSent == e.framesToSend && e.sentNow.isNone) = true ∧ s.line.places + 1 ≤ 56 := by
  decide +kernel

theorem witness_BoundaryMarks_no_probe : ∀ (i : Slot) (m : RouteMode), (serving.slot i).mode ≠ .probe m := by
  have h : ∀ i : Slot, (serving.slot i).mode = .routed .idle := by decide +kernel
  intro i m
  rw [h i]
  exact routed_ne_probe _ _

/-- A fill toward check 4117 whose half is due. -/
def filling (state : FillState) : State :=
  { banquet with radio := { banquet.radio with
    fill := { state := state, mode := .bound 4117, targetFreed := false, filled := 0, skipped := [] }, fillDue := true } }

theorem witness_FillHalfRoutes :
    banquet.radio.fillDue = false ∧
      (∀ f ∈ [FillState.none, .firstHalf, .secondHalf],
        (filling f).powered = true ∧ (filling f).radio.fillDue = true ∧ (filling f).radio.fill.state = f) ∧
      (filling .secondHalf).line.places < 50 := by
  decide +kernel

theorem witness_RouteCommandsTaken :
    banquet.takes 1 ∧ banquet.run.state ≠ .halted ∧ banquet.radio.fill.state = .none ∧ (text32 ['H', 'I']).length = 32 ∧
      routeOfFields 1 4117 (text32 []) = some (.bound 4117) ∧ routeOfFields 2 0 (text32 ['H', 'I']) = some (.message (text32 ['H', 'I'])) ∧
      (banquet.check 4117).isSome = true ∧ banquet.slotEnabled 63 = true ∧ (banquet.slot 63).inFlight = none ∧
      (banquet.slot 63).mode = .routed .idle ∧ (1 ≤ (255 : U32).toNat ∧ (255 : U32).toNat ≤ 255) ∧ banquet.slotEnabled 3 = true ∧
      (banquet.slot 3).mode = .routed (.bound 4117) ∧ (banquet.slot 3).inFlight = none ∧ (banquet.slot 3).presence = .present := by
  decide +kernel

/-- Each refusal of ROUTE SLOT, ROUTE FILL and PROBE SLOT has a state and operands of its own. -/
theorem witness_RouteCommandsTaken_refusals :
    (halted.takes 1 ∧ halted.run.state = .halted) ∧ 63 < (64 : U8).toNat ∧ 3 < (4 : U8).toNat ∧
      (∀ b ∈ text32 [], b = 0x20) ∧ (text32 []).length = 32 ∧ (255 < (256 : U32).toNat) ∧
      (let s : State := { serving with store := { serving.store with settings := { settings with lineEnable3 := false } } }
       s.takes 1 ∧ s.run.state ≠ .halted ∧ s.slotEnabled 63 = false ∧ (63 : U8) = slotByte 63) ∧
      ((filling .firstHalf).takes 1 ∧ (filling .firstHalf).radio.fill.state ≠ .none ∧ (filling .firstHalf).slotEnabled 3 = true) ∧
      (probing.takes 1 ∧ probing.slotEnabled 3 = true ∧ probing.radio.fill.state = .none ∧
        (probing.slot 3).mode = .probe (.bound 4117)) ∧
      (one.takes 1 ∧ (one.slot 3).inFlight ≠ none ∧ (one.slot 3).mode = .routed (.bound 4117)) ∧
      (banquet.takes 1 ∧ (banquet.slot 63).mode = .routed .idle ∧ (banquet.slot 63).inFlight = none ∧
        banquet.check 4118 = none ∧ (banquet.slot 63).presence ≠ .present) := by
  decide +kernel

theorem witness_AppendWritten :
    cellsWf running.journal.cells = true ∧ running.journal.extent ≤ 7 ∧ running.journal.next < 4294967296 ∧
      (4294967296 ≤ ({ running.journal with next := 4294967296 } : Journal).next) ∧ 7 ≠ running.journal.cellOf running.journal.next ∧
      (0 < 4095 ∧ 4095 < 0 + (running.journal.extent + 1) * 512) := by
  decide +kernel

theorem witness_SnapshotsCut :
    running.takes 1 ∧ running.line.places < 50 ∧ running.store.settings.snapSync = false ∧
      (let st : Settings := { settings with snapSync := true, snapFreeze := true }
       let s : State := { running with store := { running.store with settings := st } }
       s.takes 1 ∧ s.run.hold = false ∧ s.store.settings.snapSync = true ∧ s.journal.drive = .idle) ∧
      ({ running.journal with drive := .due } : Journal).drive ≠ .idle := by
  decide +kernel

/-- A journal of twelve records with an active snapshot over them all. -/
def dumping (pointer floor : Nat) : State :=
  let j := (List.range 12).foldl (fun (j : Journal) n => j.append (75000 + n) { kind := .timeSet, amount := n }) serving.journal
  { serving with journal := { j with
    floor := floor, snapshot := some { start := 0, stop := some 11, pointer := pointer, lapped := 0, cause := .command } } }

/-- The record number n of those twelve. -/
def dumped (n : Nat) : JournalRecord := { seq := n, time := 75000 + n, kind := .timeSet, amount := n }

theorem witness_DumpAndStatus :
    (serving.takes 1 ∧ serving.journal.snapshot = none) ∧
      (∀ p ∈ [(0, 0), (0, 3), (8, 0), (12, 0)], (dumping p.1 p.2).takes 1 ∧
        (dumping p.1 p.2).journal.snapshot = some { start := 0, stop := some 11, pointer := p.1, lapped := 0, cause := .command } ∧
        ∀ n ∈ (List.range (min 8 (12 - p.1))).map (p.1 + ·), (dumping p.1 p.2).journal.oldest ≤ n →
          cellsRead ((dumping p.1 p.2).journal.cellOf n) (dumping p.1 p.2).journal.cells = some (dumped n) ∧
            (dumping p.1 p.2).journal.bankResult (bankOfCell ((dumping p.1 p.2).journal.cellOf n)) ≠ .fail) := by
  decide +kernel

theorem witness_BankTested :
    serving.powered = true ∧ (∀ b : Fin 8, serving.journal.results[b] ≠ .untested) ∧
      (let j := { serving.journal with results := (Vector.replicate 8 BankResult.pass).set 7 .untested }
       j.results[(7 : Fin 8)] = .untested ∧ ∀ a : Fin 8, a < 7 → j.results[a] ≠ .untested) ∧
      catches serving .journalBankFail ∧
      -- the last bank, with a STORE WRITE FAIL that waits
      (let s : State := { startWriting with faults := { startWriting.faults with writeFailWaits := true } }
       s.powered = true ∧ s.faults.writeFailWaits = true ∧ (∀ a : Fin 8, a ≠ 7 → s.journal.results[a] ≠ .untested) ∧
         catches s .storeWriteFail ∧ catches s .journalBankFail ∧
         (State.faulted { s with journal := halted.journal } .journalBankFail .journal []).admits .storeWriteFail) := by
  decide +kernel

theorem witness_RaiseJudged :
    (((masked serving).faults.rule .noEntry).masked = true ∧ (serving.faults.rule .storeWriteFail).masked = false ∧
      ((serving.faults.rule .storeWriteFail).cls = .severe ∧ serving.run.state = .serving) ∧
      (serving.faults.classState .severe).record = none ∧ serving.store.settings.notify .severe = true ∧
      ({ settings with notifySevere := false } : Settings).notify .severe = false ∧ serving.line.places < 56 ∧
      56 ≤ ({ serving.line with owed := 56 } : ServerLine).places ∧
      ((serving.faults.setClass .severe {
        record := some { code := .storeWriteFail, source := .store, bytes := List.replicate 8 0, time := 9 }
        further := false }).classState .severe).record.isSome = true) ∧
      (serving.takes 1 ∧ serving.store.settings.injectEnable = false ∧ 18 < (19 : U8).toNat) ∧
      (let st : Settings := { settings with injectEnable := true, notifyNote := false }
       let s : State := { serving with store := { serving.store with settings := st } }
       s.takes 1 ∧ s.store.settings.injectEnable = true ∧ (s.faults.rule .lateResult).masked = false ∧
         (s.faults.rule .lateResult).cls ≠ .severe ∧ (s.faults.classState (s.faults.rule .lateResult).cls).record = none ∧
         s.store.settings.notify (s.faults.rule .lateResult).cls = false ∧ (∀ c ∈ FaultCode.all, catches s.owe c) ∧
         (masked s).takes 1 ∧ (masked s).owe.admits .lateResult) := by
  decide +kernel

theorem witness_FaultCommandsTaken :
    serving.takes 1 ∧ 3 < (4 : U8).toNat ∧ (1 : U8).toNat ≤ 1 ∧ 18 < (19 : U8).toNat ∧ 1 < (2 : U8).toNat := by
  decide +kernel

/-- The settings with no radio line enabled. -/
def noLines : Settings :=
  { settings with
    lineEnable0 := false
    lineEnable1 := false
    lineEnable2 := false
    lineEnable3 := false }

theorem witness_SetRunMoves :
    serving.takes 1 ∧ 2 < (3 : U8).toNat ∧ serving.run.state = .serving ∧ halted.run.state = .halted ∧
      (∃ b : Fin 8, State.reset.journal.results[b] = .untested) ∧
      ((∀ b : Fin 8, halted.journal.results[b] ≠ .untested) ∧ halted.store.settingListed = false) ∧
      (∀ i, i ≤ halted.journal.extent → halted.journal.bankResult ((halted.journal.base + i) % 8) ≠ .fail) ∧
      halted.store.settings.lineEnabled 3 = true ∧ catches halted.owe .configCheckFail ∧
      (let j := { halted.journal with results := halted.journal.results.set 7 .fail }
       7 ≤ j.extent ∧ (j.base + 7) % 8 = 7 ∧ j.bankResult 7 = .fail ∧
         ∀ i, i ≤ j.extent → (j.base + i) % 8 < 7 → j.bankResult ((j.base + i) % 8) ≠ .fail) ∧
      (∀ n, n < 4 → noLines.lineEnabled n = false) ∧
      banquet.checks ≠ [] ∧ (serving.checks = [] ∧ serving.tenders.pool = [] ∧ serving.uplink.queue = []) := by
  refine ⟨by decide +kernel, by decide, by decide +kernel, by decide +kernel, by decide +kernel, by decide +kernel, ?_,
    by decide +kernel, by decide +kernel, ?_, by decide +kernel, by decide +kernel, by decide +kernel⟩
  · have h : ∀ i, i < 8 → halted.journal.bankResult ((halted.journal.base + i) % 8) ≠ .fail := by decide +kernel
    intro i hi
    exact h i (Nat.lt_succ_of_le hi)
  · refine ⟨by decide +kernel, by decide +kernel, by decide +kernel, ?_⟩
    have h : ∀ i, i < 8 → (halted.journal.base + i) % 8 < 7 →
        ({ halted.journal with results := halted.journal.results.set 7 .fail } : Journal).bankResult
          ((halted.journal.base + i) % 8) ≠ .fail := by decide +kernel
    intro i hi
    exact h i (Nat.lt_succ_of_le hi)

/-- SET RUN to HALTED with a slot in PROBE. -/
theorem witness_SetRunMoves_probing :
    let s : State := { probing with checks := [] }
    s.takes 1 ∧ s.run.state ≠ .halted ∧ s.checks = [] ∧ s.tenders.pool = [] ∧ s.uplink.queue = [] ∧
      ((List.finRange 64).filter fun i => (s.slot i).probing) = [3] ∧ s.line.places + 1 < 56 := by
  decide +kernel

theorem witness_HoldAndClock :
    halted.takes 1 ∧ halted.run.state = .halted ∧ serving.takes 1 ∧ serving.run.state ≠ .halted ∧ 1 < (2 : U8).toNat ∧
      (1 : U8).toNat ≤ 1 ∧ 4000000000 < (4000000001 : U32).toNat ∧ (4000000000 : U32).toNat ≤ 4000000000 ∧
      (one.takes 1 ∧ one.tenders.pool ≠ [] ∧ ∀ t ∈ one.tenders.pool, t.state = .awaiting → one.run.clock ≤ t.expiry) ∧
      (serving.live = true ∧ serving.run.clock < 4294967295) ∧
      ({ serving.run with clock := 4294967295 } : RunControl).clock = 4294967295 ∧
      ({ serving with hold := .powerOn } : State).live = false := by
  decide +kernel

theorem witness_ShiftClosed :
    (serving.takes 1 ∧ serving.run.hold = false) ∧
      (let s : State := { banquet with run := { banquet.run with hold := true } }
       s.takes 1 ∧ s.run.hold = true ∧ s.tenders.pool = [] ∧ s.run.closeList = []) ∧
      (let f : Frame := { kind := 0xC9, tag := 0, body := [] }
       let s : State := { serving with line := { serving.line with queue := [f] } }
       s.live = true ∧ s.line.queue = f :: []) ∧
      serving.line.queue = [] := by
  decide +kernel

theorem witness_LineResets :
    (appending.takes 1 ∧ appending.uplink.backlog = [] ∧ appending.pinLow = false ∧ appending.live = true) ∧
      (let s : State := { serving with pinLow := true, hold := .line 1 2 3 }
       s.pinLow = true ∧ s.hold = .line 1 2 3 ∧ s.live = false) ∧
      (let s : State := { serving with powered := false }
       s.pinLow = false ∧ s.live = false) ∧
      serving.hold = .none ∧ ({ serving with pinLow := true, hold := .powerOn } : State).hold = .powerOn ∧
      ({ serving with pinLow := true, hold := .command } : State).hold = .command ∧
      -- a free backlog, with no write in progress, with a free and with another
      ((freeing [52]).takes 1 ∧ (freeing [52]).pinLow = false ∧ (freeing [52]).live = true ∧
        (freeing [52]).uplink.backlog = [51, 52] ∧ (freeing [52]).store.current.isSome = true) ∧
      ({ freeing [52] with store := serving.store } : State).store.current = none ∧
      -- an edge right behind the RESET
      (edged.takes 6 ∧ edged.pinLow = false ∧ edged.pending.head? = some .resetPinFall) := by
  decide +kernel

theorem witness_PowerOnAndLoss :
    ({ serving with powered := false } : State).powered = false ∧ (serving.powered = true ∧ serving.store.current = none) ∧
      (appending.powered = true ∧ appending.store.current = some {
        request := .append (entry 51 1302 6409 .storing) 52, unit := .room 63 (.copy (entry 51 1302 6409 .storing) 52) }) ∧
      (writing.powered = true ∧ writing.store.current.map WriteInProgress.unit = some
        (.settings true { count := 3, settings := { settings with journalBase := 6 } })) := by
  decide +kernel

theorem witness_FramerTakesBytes :
    let at' (f : FramerState) (rx : Bytes) : ServerLine := { serving.line with framer := f, rx := rx, gapRunning := true }
    let length (rx : Bytes) : Nat := leValue ((rx.drop 1).take 2)
    serving.live = true ∧ serving.line.framer = .hunt ∧ (at' .length [0xA5]).rx.length = 1 ∧
      (2 ≤ length [0xA5, 2, 0] ∧ length [0xA5, 2, 4] = 1026) ∧ (length [0xA5, 1, 0] < 2 ∧ 1026 < length [0xA5, 3, 4]) ∧
      catches serving .hostFrameLength ∧ [0xA5, 2, 0, 0x27, 5, 0].length < length [0xA5, 2, 0, 0x27, 5, 0] + 5 ∧
      (length [0xA5, 2, 0, 0x27, 5, 0, 0] + 5 ≤ [0xA5, 2, 0, 0x27, 5, 0, (0 : U8)].length ∧
        frameCrcGood [0xA5, 2, 0, 0x27, 5, 0, 0] = false) ∧ catches serving .hostFrameCrc ∧
      (at' .collect []).gapRunning = true ∧ catches serving .hostFrameGap ∧ serving.line.gapRunning = false ∧
      ({ serving with powered := false } : State).live = false := by
  decide +kernel

theorem witness_HostRowsTaken :
    let f : Bytes := HostCommand.runQuery.frame 5
    hostRowOf (.runQuery 5) = some (5, .runQuery) ∧ (serving.live = true ∧ serving.line.framer ≠ .held) ∧
      64 ≤ ({ serving.line with owed := 64 } : ServerLine).places ∧ serving.line.places < 64 ∧
      (HostCommand.setSplit 7 ⟨3, 3, [5]⟩).wf = false ∧ (HostCommand.authResult 5 1 100 (List.replicate 6 0x61) 0).badCode = true ∧
      (let s : State := { serving with line := { serving.line with held := some f, framer := .held } }
       s.live = true ∧ s.line.held = some f ∧ s.line.places < 64) ∧
      HostCommand.runQuery.wf = true ∧ HostCommand.runQuery.body.length ≤ 1024 ∧ serving.line.held = none ∧
      (let bytes : Bytes := [0xA5, 2, 0, 0x23, 5, 0, 0]
       let s : State := { serving with line := { serving.line with held := some bytes, framer := .held } }
       s.live = true ∧ s.line.held = some bytes ∧ s.line.places < 64 ∧ knownKind (byteAt bytes 3) = false ∧ catches s.owe .unknownKind) ∧
      -- a held frame of a known kind with tag 0, and one with a body too long
      (knownKind (byteAt (HostCommand.runQuery.frame 0) 3) = true ∧ byteAt (HostCommand.runQuery.frame 0) 4 = 0) ∧
      (knownKind 0x27 = true ∧ readCommand 0x27 (frameBody [0xA5, 3, 0, 0x27, 5, 9, 0, 0]) = none) := by
  decide +kernel

end Sys2Proof.Tests
end

section
/-! Commands of the server line handed to their owners, and what an owner that queues nothing leaves. -/

namespace Sys2Proof.Machine

open Sys2Proof

/-- A row of the host table is the moment its command is received. -/
theorem exec_hostRowOf {i : Instr} {tag : U8} {c : HostCommand} (h : hostRowOf i = some (tag, c)) (s : State) :
    exec i s = .next (s.hostRow tag c) := by
  cases i <;> cases h <;> rfl

/-- A command that passes R168 and is taken reaches its owner. -/
theorem exec_taken {s : State} {i : Instr} {tag : U8} {c : HostCommand} (hi : hostRowOf i = some (tag, c)) (h : s.takes tag)
    (hw : c.wf = true) (hb : c.badCode = false) : exec i s = .next (runHost ((c.frame tag).take 8) tag c s) := by
  rw [exec_hostRowOf hi, State.hostRow_takes s h hw hb]

theorem State.answer_refuse {s : State} {kind tag : U8} {d : State → State × Reply} {r : Reason} (h : d s.owe = s.owe.refuse r) :
    s.answer kind tag d = s.replied kind tag (.refused r) :=
  s.answer_quiet h le_rfl

/-! ### Commands of chapter 1 while HALTED -/

/-- Each command of chapter 1 as a host command, with its kind, once its body has the length its kind requires. -/
theorem checkCommand_host {i : Instr} {kind tag : U8} (h : checkCommand i = some (kind, tag)) :
    ∃ c : HostCommand, hostRowOf i = some (tag, c) ∧ c.wf = true ∧ c.badCode = false ∧ c.kind = kind ∧ kind.toNat ≤ 8 := by
  cases i with
  | openCheck _ _ _ _ _ plan =>
    simp only [checkCommand, Option.ite_none_right_eq_some, Option.some.injEq, Prod.mk.injEq] at h
    obtain ⟨hw, rfl, rfl⟩ := h
    exact ⟨_, rfl, hw, rfl, rfl, by decide⟩
  | setSplit _ _ plan =>
    simp only [checkCommand, Option.ite_none_right_eq_some, Option.some.injEq, Prod.mk.injEq] at h
    obtain ⟨hw, rfl, rfl⟩ := h
    exact ⟨_, rfl, hw, rfl, rfl, by decide⟩
  | checkQuery _ _ part _ =>
    simp only [checkCommand, Option.ite_none_right_eq_some, Option.some.injEq, Prod.mk.injEq] at h
    obtain ⟨hw, rfl, rfl⟩ := h
    exact ⟨_, rfl, hw, rfl, rfl, by decide⟩
  | addItem | voidItem | setCovers | closeCheck | voidCheck => cases h; exact ⟨_, rfl, rfl, rfl, rfl, by decide⟩
  | _ => cases h

/-- A command of chapter 1 is refused STATE by its owner while HALTED (R10). -/
theorem runHost_halted {s : State} {c : HostCommand} (bytes : Bytes) (tag : U8) (hk : c.kind.toNat ≤ 8) (hs : s.run.state = .halted) :
    runHost bytes tag c s = s.replied c.kind tag (.refused .state) := by
  have hh : s.owe.halted = true := by simp [State.halted, hs]
  cases c with
  | openCheck => exact State.answer_refuse (by rw [openCheck, if_pos hh])
  | addItem => exact State.answer_refuse (by rw [addItem, if_pos hh])
  | voidItem => exact State.answer_refuse (by rw [voidItem, if_pos hh])
  | setSplit => exact State.answer_refuse (by rw [setSplit, if_pos hh])
  | setCovers => exact State.answer_refuse (by rw [setCovers, if_pos hh])
  | checkQuery => exact State.answer_refuse (by simp only [checkQuery, if_pos hh])
  | closeCheck => exact State.answer_refuse (by rw [closeCheck, if_pos hh])
  | voidCheck => exact State.answer_refuse (by rw [voidCheck, if_pos hh])
  | _ => exact absurd hk (by simp [HostCommand.kind])

end Sys2Proof.Machine

open Sys2Proof Sys2Proof.Machine

/-- Settles O18: each owner of a command of chapter 1 tests the run state first. -/
theorem haltedRefusesCheckCommands : Obligations.HaltedRefusesCheckCommands := by
  intro i kind tag s hi ht hs
  obtain ⟨c, hrow, hw, hb, rfl, hk⟩ := checkCommand_host hi
  rw [exec_taken hrow ht hw hb, runHost_halted _ _ hk hs]

end

section
/-! What a request to a check keeps, and what power-on leaves. -/

namespace Sys2Proof.Machine

open Sys2Proof

/-- A check all of whose shares are changed by a function that keeps their balance keeps its own (R5). -/
theorem Check.balanced_of_shares {c c' : Check} {n : Nat} {f : Share → Share} (hb : c.Balanced)
    (hc : c'.shares = (c.mapShare n f).shares)
    (hf : ∀ x ∈ c.shares, x.number = n → x.due = x.paid + x.held + x.openAmt →
      (f x).due = (f x).paid + (f x).held + (f x).openAmt) : c'.Balanced := by
  intro y hy
  rw [hc] at hy
  obtain ⟨x, hx, rfl⟩ := List.mem_map.mp hy
  by_cases hn : x.number = n
  · rw [if_pos hn]; exact hf x hx hn (hb x hx)
  · rw [if_neg hn]; exact hb x hx

end Sys2Proof.Machine

open Sys2Proof Sys2Proof.Machine

/-- Settles O13: each request changes the named share alone, and moves an amount the share has between two of its figures. -/
theorem holdReleasePostBalance : Obligations.HoldReleasePostBalance := by
  intro c n p pt
  refine ⟨rfl, rfl, rfl, fun hb => ⟨fun hp => ?_, fun hp => ⟨?_, ?_⟩⟩⟩
  · refine Check.balanced_of_shares hb rfl fun x hx hn h => ?_
    have := hp x hx hn
    show x.due = x.paid + (x.held + p) + (x.openAmt - p)
    omega
  · refine Check.balanced_of_shares hb rfl fun x hx hn h => ?_
    have := hp x hx hn
    show x.due = x.paid + (x.held - p) + (x.openAmt + p)
    omega
  · refine Check.balanced_of_shares hb rfl fun x hx hn h => ?_
    have := hp x hx hn
    show x.due = x.paid + p + (x.held - p) + x.openAmt
    omega

namespace Sys2Proof.Machine

theorem State.reset_slot (i : Slot) : State.reset.slot i = SlotEntry.start := by
  simp [State.slot, State.reset, Radio.start]

theorem FaultCapture.start_rule (c : FaultCode) : (FaultCapture.start.rule c).masked = false := by
  cases c <;> rfl

theorem FaultCapture.start_classState (c : FaultClass) : FaultCapture.start.classState c = { record := none, further := false } := by
  cases c <;> rfl

end Sys2Proof.Machine

/-- Settles O2: the values of the blocks after power-on, and the four invariants they meet. -/
theorem resetStateSound : Obligations.ResetStateSound := by
  refine ⟨rfl, rfl, rfl, rfl, rfl, rfl, rfl, rfl, rfl, rfl, State.reset_slot, rfl, rfl, rfl, rfl, rfl, rfl, by decide,
    FaultCapture.start_rule, FaultCapture.start_classState, rfl, rfl, rfl, rfl, ⟨rfl, by decide, by decide⟩, ?_,
    fun _ => ⟨rfl, rfl⟩, ⟨by decide, by decide, rfl⟩⟩
  intro c h
  rw [show State.reset.faults = FaultCapture.start from rfl, FaultCapture.start_classState] at h
  simp at h

end

section
/-! The five list queries. -/

namespace Sys2Proof.Machine

open Sys2Proof

/-- A command whose owner changes nothing: its reply is queued, and nothing else changes. -/
theorem exec_answered {s : State} {i : Instr} {tag : U8} {r : Reply} (c : HostCommand) (d : State → State × Reply)
    (hi : hostRowOf i = some (tag, c)) (ht : s.takes tag) (hw : c.wf = true) (hb : c.badCode = false)
    (hd : runHost ((c.frame tag).take 8) tag c s = s.answer c.kind tag d) (hr : d s.owe = (s.owe, r)) :
    exec i s = .next (s.replied c.kind tag r) := by
  rw [exec_taken hi ht hw hb, hd, s.answer_quiet hr le_rfl]

theorem slotOfByte_lt {n : U8} (h : n.toNat < 64) : slotOfByte n = some ⟨n.toNat, h⟩ := by rw [slotOfByte, dif_pos h]

theorem slotOfByte_ge {n : U8} (h : 64 ≤ n.toNat) : slotOfByte n = none := by rw [slotOfByte, dif_neg (by omega)]

theorem noTenderLists_eq : noTenderLists = List.replicate 4 0 := by decide

theorem U8.toNat_pos {x : U8} (h : x ≠ 0) : 1 ≤ x.toNat := by
  rcases Nat.eq_zero_or_pos x.toNat with h0 | h0
  · exact absurd (BitVec.eq_of_toNat_eq h0) h
  · exact h0

/-- What CHECK QUERY lists where its part and first line are in their ranges (R13). -/
def Check.queried (c : Check) (part : QueryPart) (first : U8) : Bytes :=
  match part with
  | .lines => noSummary ++ c.lineList first.toNat
  | .summary | .other _ => c.summary ++ noLines

/-- CHECK QUERY names something it lists (R13). -/
abbrev queryListed (part : QueryPart) (first : U8) : Prop :=
  part = .summary ∨ (part = .lines ∧ 1 ≤ first.toNat ∧ first.toNat ≤ 96)

theorem checkQuery_range {s : State} {n : U16} {part : QueryPart} {first : U8} (hs : s.run.state ≠ .halted)
    (h : n = 0 ∨ ¬queryListed part first) : checkQuery n part first s = s.refuse .range := by
  have hh : ¬s.halted = true := by simpa [State.halted] using hs
  simp only [checkQuery, if_neg hh]
  split
  · rfl
  · rename_i hn
    obtain ⟨hp, hl⟩ := not_or.mp (h.resolve_left hn)
    cases part with
    | summary => exact absurd rfl hp
    | other => rfl
    | lines =>
      refine if_pos ?_
      by_contra hf
      obtain ⟨h0, h1⟩ := not_or.mp hf
      exact hl ⟨rfl, U8.toNat_pos h0, by omega⟩

theorem checkQuery_listed {s : State} {n : U16} {part : QueryPart} {first : U8} (hs : s.run.state ≠ .halted)
    (hn : n ≠ 0) (h : queryListed part first) : checkQuery n part first s =
      match s.check n.toNat with
      | none => s.refuse .noCheck
      | some c => s.accept (c.queried part first) := by
  have hh : ¬s.halted = true := by simpa [State.halted] using hs
  simp only [checkQuery, if_neg hh, if_neg hn]
  obtain rfl | ⟨rfl, h1, h2⟩ := h
  · rfl
  · have : ¬(first = 0 ∨ 96 < first.toNat) := by
      rintro (rfl | h3)
      · exact absurd h1 (by decide)
      · omega
    simp only [if_neg this]
    rfl

end Sys2Proof.Machine

open Sys2Proof Sys2Proof.Machine

/-- Settles O20: each query passes its range tests or not, and its owner changes nothing. -/
theorem listQueriesReport : Obligations.ListQueriesReport := by
  intro s tag ht zeros noTender
  refine ⟨fun n t hn hf => ?_, fun n c hn hf hc => ?_, fun n hn hf hc => ?_, ?_, fun p h1 h2 => ?_, fun p h => ?_,
    fun n h => ?_, fun n h => ⟨?_, ?_⟩, fun n h => ?_, fun n c first hs hn hc => ⟨?_, fun h1 h2 => ?_⟩,
    fun n part first hs hw => ⟨fun h => ?_, fun hn hl hc => ?_⟩⟩
  · dsimp only
    have : tenderQuery n s.owe = s.owe.accept (noTenderLists ++ t.fields s.run.clock ++ noClosedFields) := by
      simp only [tenderQuery, if_neg hn, State.owe_tenders, hf, State.owe_run]
    rw [exec_answered (.tenderQuery n) (tenderQuery n) rfl ht rfl rfl rfl this, noTenderLists_eq]
    -- the equation of `Tender.fields` is not generated within the heartbeat limit; its body is wanted as it stands
    delta Tender.fields
    simp only [List.append_assoc]
    rfl
  · refine exec_answered (.tenderQuery n) (tenderQuery n) rfl ht rfl rfl rfl ?_
    simp only [tenderQuery, if_neg hn, State.owe_tenders, hf, hc, noTenderFields]
    rfl
  · refine exec_answered (.tenderQuery n) (tenderQuery n) rfl ht rfl rfl rfl ?_
    simp only [tenderQuery, if_neg hn, State.owe_tenders, hf, hc]
    rfl
  · refine exec_answered (.tenderQuery 0) (tenderQuery 0) rfl ht rfl rfl rfl ?_
    simp only [tenderQuery, if_true, TenderPool.lists, noTenderFields, noClosedFields]
    rfl
  -- FORWARD QUERY
  · refine exec_answered (.forwardQuery p) (forwardQuery p) rfl ht rfl rfl rfl ?_
    have : ¬(p = 0 ∨ 64 < p.toNat) := by
      rintro (rfl | h3)
      · exact absurd h1 (by decide)
      · omega
    simp only [forwardQuery, if_neg this]
    rfl
  · exact exec_answered (.forwardQuery p) (forwardQuery p) rfl ht rfl rfl rfl (by rw [forwardQuery, if_pos h]; rfl)
  -- SLOT QUERY and SHIFT QUERY
  · exact exec_answered (.slotQuery n) (slotQuery n) rfl ht rfl rfl rfl (by simp only [slotQuery, slotOfByte_lt h]; rfl)
  · exact exec_answered (.slotQuery n) (slotQuery n) rfl ht rfl rfl rfl (by simp only [slotQuery, slotOfByte_ge h]; rfl)
  · exact exec_answered (.shiftQuery n) (shiftQuery n) rfl ht rfl rfl rfl (by simp only [shiftQuery, slotOfByte_ge h]; rfl)
  · exact exec_answered (.shiftQuery n) (shiftQuery n) rfl ht rfl rfl rfl (by simp only [shiftQuery, slotOfByte_lt h]; rfl)
  -- CHECK QUERY
  · exact exec_answered (.checkQuery n .summary first) (checkQuery n .summary first) rfl ht rfl rfl rfl
      (by rw [checkQuery_listed (s := s.owe) hs hn (.inl rfl)]; simp only [State.owe_check, hc]; rfl)
  · exact exec_answered (.checkQuery n .lines first) (checkQuery n .lines first) rfl ht rfl rfl rfl
      (by rw [checkQuery_listed (s := s.owe) hs hn (.inr ⟨rfl, h1, h2⟩)]; simp only [State.owe_check, hc]; rfl)
  · exact exec_answered (.checkQuery n part first) (checkQuery n part first) rfl ht hw rfl rfl (checkQuery_range hs h)
  · exact exec_answered (.checkQuery n part first) (checkQuery n part first) rfl ht hw rfl rfl
      (by rw [checkQuery_listed (s := s.owe) hs hn hl]; simp only [State.owe_check, hc]; rfl)
end

section
/-! What an event leaves of a check and of the state: settling, an applied change, and the departure of a tender (R8, R9, R18, R19). -/

namespace Sys2Proof.Machine

open Sys2Proof

/-! ### Applying a change -/

/-- Recomputing changes the totals and the shares alone. -/
theorem recompute_ok {st : Settings} {c c' : Check} (h : recompute st c = .ok c') :
    c' = { c with totals := c'.totals, shares := c'.shares } := by
  unfold recompute at h
  dsimp only at h
  split at h
  · cases h
  · cases h; rfl

theorem recomputeLocked_ok {st : Settings} {c c' : Check} {d amount : Nat} (h : recomputeLocked st c d amount = .ok c') :
    c' = { c with totals := c'.totals, shares := c'.shares } := by
  unfold recomputeLocked at h
  dsimp only at h
  split at h
  · cases h
  · cases h; rfl

/-- A change that is applied gives the check lines, covers, a plan, totals and shares; nothing else of it changes. -/
theorem applyChange_ok {st : Settings} {free : Nat} {c c' : Check} {ch : Change} (h : applyChange st free c ch = .ok c') :
    c' = { c with lines := c'.lines, covers := c'.covers, plan := c'.plan, totals := c'.totals, shares := c'.shares } := by
  have rebuilt : ∀ d : Check, d = { c with lines := d.lines, covers := d.covers, plan := d.plan } → recompute st d = .ok c' →
      c' = { c with lines := c'.lines, covers := c'.covers, plan := c'.plan, totals := c'.totals, shares := c'.shares } := by
    intro d hd hr
    have e := recompute_ok hr
    rw [e, hd]
  cases ch with
  | addItem price quantity taxClass seats =>
    simp only [applyChange] at h
    split at h
    · cases h
    split at h
    · cases h
    split at h
    · have e := recomputeLocked_ok h
      rw [e]
    · exact rebuilt _ rfl h
  | voidItem line =>
    simp only [applyChange] at h
    split at h
    · cases h
    split at h
    · cases h
    split at h
    · cases h
    · exact rebuilt _ rfl h
  | setSplit plan =>
    simp only [applyChange] at h
    split at h
    · cases h
    split at h
    · cases h
    · exact rebuilt _ rfl h
  | setCovers covers =>
    simp only [applyChange] at h
    split at h
    · cases h
    split at h
    · cases h
    split at h
    · split at h
      · cases h
      · exact rebuilt _ rfl h
    all_goals exact rebuilt _ rfl h

/-- What a change that is applied keeps. -/
theorem applyChange_keeps {st : Settings} {free : Nat} {c c' : Check} {ch : Change} (h : applyChange st free c ch = .ok c') :
    c'.number = c.number ∧ c'.inPool = c.inPool ∧ c'.parked = c.parked ∧ c'.begun = c.begun ∧ c'.state = c.state := by
  rw [applyChange_ok h]
  exact ⟨rfl, rfl, rfl, rfl, rfl⟩

/-! ### Events at a check -/

/-- The events of a check, one after another. -/
def CheckEvents.followed (a b : CheckEvents) : CheckEvents := ⟨b.check, a.records ++ b.records, a.notices ++ b.notices⟩

/-- A state with what an event leaves of one check. -/
def State.withEvents (s : State) (ev : CheckEvents) : State :=
  { s with
    checks := Machine.putCheck s.checks ev.check
    journal := s.journal.appendAll s.run.clock ev.records
    line := { s.line with queue := s.line.queue ++ ev.notices } }

/-- The queue admits these notices one after another (R171). -/
abbrev ServerLine.fits (l : ServerLine) (notices : List Frame) : Prop := notices = [] ∨ l.places + notices.length ≤ 56

theorem ServerLine.fits_append {l : ServerLine} {a b : List Frame} (h : l.fits (a ++ b)) :
    l.fits a ∧ ServerLine.fits { l with queue := l.queue ++ a } b := by
  simp only [ServerLine.fits, ServerLine.places, List.append_eq_nil_iff, List.length_append] at h ⊢
  rcases h with ⟨rfl, rfl⟩ | h
  · exact ⟨.inl rfl, .inl rfl⟩
  · exact ⟨.inr (by omega), .inr (by omega)⟩

theorem State.offer_fits {s : State} {f : Frame} (h : s.line.fits [f]) :
    s.offer f = { s with line := { s.line with queue := s.line.queue ++ [f] } } := by
  obtain h | h := h
  · cases h
  · exact s.offer_room f (by simpa using h)

section
variable (s : State) (ev : CheckEvents)

@[simp] theorem State.withEvents_line :
    (s.withEvents ev).line = { s.line with queue := s.line.queue ++ ev.notices } := rfl
@[simp] theorem State.withEvents_checks : (s.withEvents ev).checks = Machine.putCheck s.checks ev.check := rfl
@[simp] theorem State.withEvents_tenders : (s.withEvents ev).tenders = s.tenders := rfl
@[simp] theorem State.withEvents_radio : (s.withEvents ev).radio = s.radio := rfl
@[simp] theorem State.withEvents_store : (s.withEvents ev).store = s.store := rfl
@[simp] theorem State.withEvents_run : (s.withEvents ev).run = s.run := rfl

end

theorem State.withEvents_check {s : State} {ev : CheckEvents} {n : Nat} {c : Check} (hc : s.check n = some c)
    (hn : ev.check.number = n) : (s.withEvents ev).check n = some ev.check := by
  subst hn
  exact findCheck_putCheck_same hc

theorem State.withEvents_withEvents {s : State} {a b : CheckEvents} (h : a.check.number = b.check.number) :
    (s.withEvents a).withEvents b = s.withEvents (a.followed b) := by
  have hj : ∀ j : Journal, (j.appendAll s.run.clock a.records).appendAll s.run.clock b.records =
      j.appendAll s.run.clock (a.records ++ b.records) := fun j => (List.foldl_append ..).symm
  simp only [State.withEvents, CheckEvents.followed, putCheck_putCheck h, hj, List.append_assoc]

/-- A record put back, with nothing written and nothing queued. -/
theorem State.putCheck_withEvents (s : State) (c : Check) : s.putCheck c = s.withEvents ⟨c, [], []⟩ := by
  simp [State.withEvents, State.putCheck, State.setChecks, Journal.appendAll]

/-! ### Settling -/

/-- Settling with no change parked and no tender in the pool (R8). -/
theorem Check.settledState_rested {c : Check} (hp : c.parked = none) (h0 : c.inPool = 0) :
    c.settledState = c.rested.1.state := by
  have hall : c.shares.all Share.isPaid = true ↔ ∀ x ∈ c.shares, x.paid = x.due := by simp [Share.isPaid]
  simp only [Check.settledState, Check.rested, hp, h0, hall, Option.isSome_none, Bool.false_eq_true, if_false, Nat.lt_irrefl]

theorem State.settleCheck_rested {s : State} {n : Nat} {c : Check} (hc : s.check n = some c) (hp : c.parked = none)
    (h0 : c.inPool = 0) (hf : s.line.fits c.rested.2) : s.settleCheck n = s.withEvents ⟨c.rested.1, [], c.rested.2⟩ := by
  have hn : c.number = n := findCheck_number hc
  have hs := Check.settledState_rested hp h0
  have hr : c.rested = ({ c with state := c.settledState },
      if c.settledState = .settled ∧ c.state ≠ .settled then [checkSettledNotice n c.totals.d (c.nextReceipt - 1)] else []) := by
    rw [hs, ← hn]; rfl
  rw [hr] at hf ⊢
  simp only [State.settleCheck, hc]
  split
  · rename_i hm
    simp only [if_pos hm] at hf
    rw [State.offer_fits (by exact hf)]
    rfl
  · exact State.putCheck_withEvents _ _

/-! ### The departure of a tender -/

/-- What a departure that leaves `c`, its count already lowered, does: nothing while tenders are left (R9). -/
def departed (st : Settings) (checks : List Check) (c : Check) : CheckEvents :=
  if 0 < c.inPool then ⟨c, [], []⟩ else lastDeparture st checks c

theorem lastDeparture_number (st : Settings) (checks : List Check) (c : Check) :
    (lastDeparture st checks c).check.number = c.number := by
  unfold lastDeparture
  split
  · rfl
  · dsimp only
    split
    · rfl
    · rename_i h
      exact (applyChange_keeps h).1

theorem departed_number (st : Settings) (checks : List Check) (c : Check) : (departed st checks c).check.number = c.number := by
  unfold departed
  split
  · rfl
  · exact lastDeparture_number st checks c

/-- The check a departure leaves is looked at on a table where it stands already. -/
theorem departed_putCheck (st : Settings) (checks : List Check) {c d : Check} (h : d.number = c.number) :
    departed st (putCheck checks d) c = departed st checks c := by
  simp only [departed, lastDeparture, putCheck_putCheck h]

/-- A check put back by an event and then settled. -/
theorem State.withEvents_settled {s : State} {n : Nat} {c : Check} {ev : CheckEvents} (hc : s.check n = some c)
    (hn : ev.check.number = n) (hp : ev.check.parked = none) (h0 : ev.check.inPool = 0)
    (hf : s.line.fits (ev.notices ++ ev.check.rested.2)) :
    (s.withEvents ev).settleCheck n = s.withEvents ⟨ev.check.rested.1, ev.records, ev.notices ++ ev.check.rested.2⟩ := by
  rw [State.settleCheck_rested (State.withEvents_check hc hn) hp h0 (ServerLine.fits_append hf).2,
    State.withEvents_withEvents (by rfl)]
  simp [CheckEvents.followed]

/-- A check's last tender departs: the parked change applied or refused, and then the settling (R9, R18, R19). -/
theorem State.lastDeparture_withEvents {s : State} {n : Nat} {c0 c : Check} (hc : s.check n = some c0) (hn : c.number = n)
    (h0 : c.inPool = 0) (hf : s.line.fits (lastDeparture s.store.settings s.checks c).notices) :
    (match c.parked with
      | some p => ((s.putCheck c).applyParked c p).settleCheck n
      | none => (s.putCheck c).settleCheck n) = s.withEvents (lastDeparture s.store.settings s.checks c) := by
  cases hp : c.parked with
  | none =>
    simp only [lastDeparture, hp] at hf ⊢
    rw [State.putCheck_withEvents]
    exact State.withEvents_settled (ev := ⟨c, [], []⟩) hc hn hp h0 hf
  | some p =>
    have hl : linesFree (s.putCheck c).checks = linesFree (Machine.putCheck s.checks c) := rfl
    simp only [lastDeparture, hp, State.applyParked, State.putCheck_store, hl] at hf ⊢
    cases ha : applyChange s.store.settings (linesFree (Machine.putCheck s.checks c)) { c with parked := none } p.change with
    | error r =>
      simp only [ha] at hf ⊢
      rw [putCheck_twice (by rfl), State.offer_fits (by exact (ServerLine.fits_append (a := [_]) hf).1)]
      exact State.withEvents_settled (ev := ⟨_, [], [changeRefusedNotice c.number p.change.code p.tag r]⟩) hc hn rfl h0 hf
    | ok c' =>
      obtain ⟨hnum, hin, hpk, hbg, -⟩ := applyChange_keeps ha
      replace hnum : c'.number = c.number := hnum
      replace hbg : c'.begun = c.begun := hbg
      have hr : changeRecord c' p.change true =
          { kind := .changeApplied, check := c.number, share := if c.begun then 25 else 0, amount := c'.totals.d
            receipt := changeLine c' p.change, flags := p.change.code, barrier := true } := by
        rw [changeRecord, hnum, hbg]
      simp only [ha] at hf ⊢
      rw [State.commitChange, putCheck_twice (c := c) hnum.symm, hr,
        State.offer_fits (by exact (ServerLine.fits_append (a := [_]) hf).1)]
      exact State.withEvents_settled (ev := ⟨c', [_], [_]⟩) hc (hnum.trans hn) hpk (hin.trans h0) hf

/-- The departure of a tender at its check (R9). -/
theorem State.departure_departed {s : State} {n : Nat} {c : Check} (hc : s.check n = some c)
    (hf : s.line.fits (departed s.store.settings s.checks { c with inPool := c.inPool - 1 }).notices) :
    s.departure n = s.withEvents (departed s.store.settings s.checks { c with inPool := c.inPool - 1 }) := by
  have hn : c.number = n := findCheck_number hc
  simp only [State.departure, hc]
  unfold departed at hf ⊢
  dsimp only at hf ⊢
  split
  · exact State.putCheck_withEvents _ _
  · rename_i h0
    rw [if_neg h0] at hf
    exact State.lastDeparture_withEvents (c := { c with inPool := c.inPool - 1 }) hc hn (Nat.eq_zero_of_not_pos h0) hf

end Sys2Proof.Machine
end

section
/-! Tenders that leave the pool and tenders that post: what each leaves of its check, its slot, the pool, the closed list, the journal
and the queue (R63 to R66). -/

namespace Sys2Proof.Machine

open Sys2Proof

/-! ### Leaving the pool -/

theorem closeTender_closedWith (closed : List ClosedTender) (t : Tender) (reason : EndReason) (clock : Nat) :
    closeTender closed t reason clock = closedWith closed ⟨t.id, t.check, t.share, t.slot, reason, clock⟩ := by
  simp [closeTender, closedWith, Config.closedSize]

/-- A tender leaves the pool: the closed list and its slot, then its departure at its check (R63). -/
theorem State.leavePool_departed {s : State} {t : Tender} {reason : EndReason} {c : Check} (hc : s.check t.check = some c)
    (hf : s.line.fits (departed s.store.settings s.checks { c with inPool := c.inPool - 1 }).notices) :
    s.leavePool t reason = State.withEvents
      { s with
        tenders := { s.tenders with
          pool := s.tenders.pool.filter (fun x => x.id != t.id)
          closed := closedWith s.tenders.closed ⟨t.id, t.check, t.share, t.slot, reason, s.run.clock⟩ }
        radio := { s.radio with slots := s.radio.slots.set t.slot { s.slot t.slot with inFlight := none } } }
      (departed s.store.settings s.checks { c with inPool := c.inPool - 1 }) := by
  rw [← closeTender_closedWith]
  exact State.departure_departed (c := c) hc hf

/-! ### One posting -/

/-- A check after one posting, its tender gone (R7, R9). -/
def postedCheck (c : Check) (t : Tender) : Check :=
  { c with
    shares := c.shares.map fun x => if x.number = t.share then
      { x with paid := x.paid + t.ps, held := x.held - t.ps, tipsPaid := x.tipsPaid + t.pt } else x
    nextReceipt := c.nextReceipt + 1, begun := true, inPool := c.inPool - 1 }

/-- The share a posting has paid. -/
def postedShare (c : Check) (t : Tender) : Share := ((postedCheck c t).share t.share).getD { number := t.share }

/-- One posting at its check: the record, TENDER POSTED, and SHARE PAID where the share becomes PAID (R7, R65). -/
def postStep (c : Check) (t : Tender) : CheckEvents :=
  let x := postedShare c t
  ⟨postedCheck c t, [postedRecord t c.nextReceipt],
    tenderPostedNotice t c.nextReceipt x.paid x.openAmt ::
      if x.paid = x.due then [sharePaidNotice c.number x.number x.paid x.tipsPaid] else []⟩

theorem postRun_cons (c : Check) (t : Tender) (rest : List Tender) :
    postRun c (t :: rest) = (postStep c t).followed (postRun (postStep c t).check rest) := rfl

theorem afterHead_cons (st : Settings) (checks : List Check) (c : Check) (t : Tender) (ready rest : List Tender) :
    afterHead st checks c (t :: ready) rest = (postStep c t).followed (afterHead st checks (postedCheck c t) ready rest) := by
  cases rest with
  | cons => rfl
  | nil => simp only [afterHead, postRun_cons, CheckEvents.followed, List.append_assoc]; rfl

/-- With nothing left to post, what follows at a check is its departure alone. -/
theorem afterHead_nil {st : Settings} {checks : List Check} {c : Check} {rest : List Tender} (h : c.inPool = rest.length) :
    afterHead st checks c [] rest = departed st checks c := by
  cases rest with
  | cons => simp [afterHead, postRun, departed, h]
  | nil => simp [afterHead, postRun, departed, h]

theorem afterHead_number (st : Settings) (checks : List Check) (c : Check) (ready rest : List Tender) :
    (afterHead st checks c ready rest).check.number = c.number := by
  induction ready generalizing c with
  | nil =>
    cases rest with
    | cons => rfl
    | nil => exact lastDeparture_number ..
  | cons t ready ih => rw [afterHead_cons]; exact ih _

theorem afterHead_putCheck (st : Settings) (checks : List Check) {c d : Check} (ready rest : List Tender) (h : d.number = c.number) :
    afterHead st (putCheck checks d) c ready rest = afterHead st checks c ready rest := by
  induction ready generalizing c with
  | nil =>
    cases rest with
    | cons => rfl
    | nil => simp only [afterHead, postRun, lastDeparture, putCheck_putCheck h]
  | cons t ready ih => rw [afterHead_cons, afterHead_cons, ih (c := postedCheck c t) h]

/-- A state after tenders of one check have posted, with what this leaves of the check. -/
def State.posts (s : State) (tenders : List Tender) (ev : CheckEvents) : State :=
  State.withEvents
    { s with
      tenders := { s.tenders with
        pool := s.tenders.without tenders, closed := closedPosted s.run.clock s.tenders.closed tenders }
      radio := { s.radio with slots := slotsPosted s.radio.slots tenders } } ev

theorem without_nil (p : TenderPool) : p.without [] = p.pool := by simp [TenderPool.without]

theorem without_singleton (p : TenderPool) (t : Tender) : p.without [t] = p.pool.filter fun x => x.id != t.id := by
  simp [TenderPool.without]

theorem without_without (p : TenderPool) (closed : List ClosedTender) (t : Tender) (more : List Tender) :
    TenderPool.without { p with pool := p.without [t], closed := closed } more = p.without (t :: more) := by
  simp [TenderPool.without, List.filter_filter, Bool.and_comm]

theorem State.posts_posts {s : State} {t : Tender} {more : List Tender} {a b : CheckEvents} (h : a.check.number = b.check.number) :
    (s.posts [t] a).posts more b = s.posts (t :: more) (a.followed b) := by
  have hw := without_without s.tenders (closedPosted s.run.clock s.tenders.closed [t]) t more
  rw [State.posts, State.posts, State.posts, ← State.withEvents_withEvents h, ← hw]
  rfl

theorem State.withEvents_posts {s : State} {tenders : List Tender} {a b : CheckEvents} (h : a.check.number = b.check.number) :
    (s.withEvents a).posts tenders b = s.posts tenders (a.followed b) := by
  rw [State.posts, State.posts, ← State.withEvents_withEvents h]
  rfl

/-- The steps of a posting at its check, before its tender leaves (R65). -/
theorem State.postToCheck_eq {s : State} {t : Tender} {c : Check} (hc : s.check t.check = some c)
    (hf : s.line.fits (postStep c t).notices) :
    s.postToCheck t = s.withEvents { postStep c t with check := c.post t.share t.ps t.pt } := by
  have hx : ((c.post t.share t.ps t.pt).share t.share).getD { number := t.share } = postedShare c t := rfl
  simp only [State.postToCheck, hc, hx]
  simp only [postStep] at hf ⊢
  by_cases hp : (postedShare c t).paid = (postedShare c t).due
  · have hpaid : (postedShare c t).isPaid = true := by simpa [Share.isPaid] using hp
    rw [if_pos hp] at hf ⊢
    obtain ⟨h1, h2⟩ := ServerLine.fits_append (a := [_]) hf
    rw [if_pos hpaid, State.offer_fits (f := tenderPostedNotice ..) (by exact h1), State.offer_fits (by exact h2)]
    simp only [List.append_assoc]
    rfl
  · have hpaid : ¬(postedShare c t).isPaid = true := by simpa [Share.isPaid] using hp
    rw [if_neg hp] at hf ⊢
    rw [if_neg hpaid, State.offer_fits (by exact hf)]
    rfl

/-- One posting (R65). -/
theorem State.postTender_posts {s : State} {t : Tender} {c : Check} (hc : s.check t.check = some c)
    (hf : s.line.fits ((postStep c t).followed (departed s.store.settings s.checks (postedCheck c t))).notices) :
    s.postTender t = s.posts [t] ((postStep c t).followed (departed s.store.settings s.checks (postedCheck c t))) := by
  have hn : c.number = t.check := findCheck_number hc
  obtain ⟨h1, h2⟩ := ServerLine.fits_append hf
  have hd : departed s.store.settings (Machine.putCheck s.checks (c.post t.share t.ps t.pt)) (postedCheck c t) =
      departed s.store.settings s.checks (postedCheck c t) := departed_putCheck _ _ rfl
  rw [State.postTender, State.postToCheck_eq hc h1]
  have hslot : (s.withEvents { postStep c t with check := c.post t.share t.ps t.pt }).slot t.slot = s.slot t.slot := rfl
  have hslots : (s.radio.slots.set t.slot ((s.slot t.slot).grow t.ps t.pt)).set t.slot
      { (s.slot t.slot).grow t.ps t.pt with inFlight := none } = slotsPosted s.radio.slots [t] := by
    rw [Vector.set_set]; rfl
  rw [State.leavePool_departed (c := c.post t.share t.ps t.pt) (State.withEvents_check hc hn) (by exact hd ▸ h2), State.slot_putSlot_same, hslot]
  simp only [State.putSlot_radio, State.withEvents_radio, hslots, State.posts, without_singleton]
  refine Eq.trans ?_ (State.withEvents_withEvents (a := { postStep c t with check := c.post t.share t.ps t.pt })
    (departed_number s.store.settings s.checks (postedCheck c t)).symm)
  rw [← hd]
  rfl

/-! ### A run of postings -/

theorem TenderPool.issueHead_eq (p : TenderPool) (n : Nat) : p.issueHead n = (p.issueList n).head? := by
  rw [TenderPool.issueHead, TenderPool.issueList, List.head?_filter]

/-- The issue list of a check once the tenders of an id have left the pool. -/
theorem TenderPool.issueList_left (p : TenderPool) (closed : List ClosedTender) (t : Tender) (n : Nat) :
    TenderPool.issueList { p with pool := p.without [t], closed := closed } n =
      (p.issueList n).filter fun x => x.id != t.id := by
  simp [TenderPool.issueList, without_singleton, List.filter_filter, Bool.and_comm]

/-- Nothing posts where the issue list is empty or its head is not READY (R64). -/
theorem postWithin_stops {s : State} {n : Nat} (h : ∀ u ∈ (s.tenders.issueList n).head?, u.state ≠ .ready) (k : Nat) :
    postWithin k n s = s := by
  cases k with
  | zero => rfl
  | succ k =>
    rw [postWithin, TenderPool.issueHead_eq]
    cases hh : (s.tenders.issueList n).head? with
    | none => rfl
    | some u => exact if_neg (h u hh)

/-- The READY head of an issue list posts, and the READY tenders right behind it one after another (R64, R66). -/
theorem postWithin_posts {n : Nat} {rest : List Tender} (hrest : ∀ u ∈ rest.head?, u.state ≠ .ready) (k : Nat) (t : Tender)
    (ready : List Tender) (s : State) (c : Check) (hhead : s.tenders.issueHead n = some t) (ht : t.state = .ready)
    (hleft : ((s.tenders.issueList n).filter fun x => x.id != t.id) = ready ++ rest) (hready : ∀ u ∈ ready, u.state = .ready)
    (hids : ((ready ++ rest).map Tender.id).Nodup) (hc : s.check n = some c) (hp : c.inPool = (ready ++ rest).length + 1)
    (hk : ready.length < k) (hf : s.line.fits (afterHead s.store.settings s.checks c (t :: ready) rest).notices) :
    postWithin k n s = s.posts (t :: ready) (afterHead s.store.settings s.checks c (t :: ready) rest) := by
  induction k generalizing t ready s c with
  | zero => omega
  | succ k ih =>
    have htn : t.check = n := by
      rw [TenderPool.issueHead] at hhead
      simpa using List.find?_some hhead
    subst htn
    have hin : (postedCheck c t).inPool = (ready ++ rest).length := by
      show c.inPool - 1 = _
      omega
    rw [postWithin, hhead]
    dsimp only
    rw [if_pos ht]
    rw [afterHead_cons] at hf ⊢
    obtain ⟨hf1, hf2⟩ := ServerLine.fits_append hf
    cases ready with
    | nil =>
      rw [afterHead_nil (rest := rest) hin] at hf ⊢
      rw [State.postTender_posts hc hf]
      refine postWithin_stops ?_ k
      show ∀ u ∈ (TenderPool.issueList { s.tenders with pool := s.tenders.without [t], closed := _ } t.check).head?, u.state ≠ .ready
      rw [TenderPool.issueList_left, hleft]
      exact hrest
    | cons u more =>
      have hd : departed s.store.settings s.checks (postedCheck c t) = ⟨postedCheck c t, [], []⟩ := if_pos (by simp [hin])
      have hstep : (postStep c t).followed ⟨postedCheck c t, [], []⟩ = postStep c t := by simp [CheckEvents.followed, postStep]
      have hpost : s.postTender t = s.posts [t] (postStep c t) := by
        rw [State.postTender_posts hc (by rw [hd, hstep]; exact hf1), hd, hstep]
      have hafter : afterHead (s.posts [t] (postStep c t)).store.settings (s.posts [t] (postStep c t)).checks (postedCheck c t)
          (u :: more) rest = afterHead s.store.settings s.checks (postedCheck c t) (u :: more) rest :=
        afterHead_putCheck _ _ _ _ rfl
      have hlist : (s.posts [t] (postStep c t)).tenders.issueList t.check = u :: (more ++ rest) := by
        rw [← List.cons_append, ← hleft]
        exact TenderPool.issueList_left ..
      have hnum : (postStep c t).check.number = t.check := findCheck_number (c := c) hc
      obtain ⟨hnot, hids'⟩ := List.nodup_cons.mp hids
      have hdrop : ((u :: (more ++ rest)).filter fun x => x.id != u.id) = more ++ rest := by
        rw [List.filter_cons_of_neg (by simp), List.filter_eq_self]
        intro v hv
        exact bne_iff_ne.mpr fun h => hnot (h ▸ List.mem_map_of_mem hv)
      rw [hpost, ih u more (s.posts [t] (postStep c t)) (postedCheck c t) (by rw [TenderPool.issueHead_eq, hlist]; rfl)
        (hready u (.head _)) (by rw [hlist, hdrop]) (fun v hv => hready v (.tail _ hv)) hids'
        (State.withEvents_check hc hnum) (by simpa using hin) (by simpa using hk) (by exact hafter ▸ hf2)]
      rw [hafter]
      exact State.posts_posts (a := postStep c t) (afterHead_number ..).symm

/-- The READY tenders that stand first in an issue list post (R64, R66). -/
theorem State.postReady_posts {s : State} {n : Nat} {t : Tender} {ready rest : List Tender} {c : Check}
    (hrest : ∀ u ∈ rest.head?, u.state ≠ .ready) (hlist : s.tenders.issueList n = t :: (ready ++ rest))
    (hready : ∀ u ∈ t :: ready, u.state = .ready) (hids : ((t :: (ready ++ rest)).map Tender.id).Nodup) (hc : s.check n = some c)
    (hp : c.inPool = (ready ++ rest).length + 1)
    (hf : s.line.fits (afterHead s.store.settings s.checks c (t :: ready) rest).notices) :
    s.postReady n = s.posts (t :: ready) (afterHead s.store.settings s.checks c (t :: ready) rest) := by
  obtain ⟨hnot, hids'⟩ := List.nodup_cons.mp hids
  have hk : ready.length < s.tenders.pool.length := by
    have h1 : (s.tenders.issueList n).length ≤ s.tenders.pool.length := List.length_filter_le ..
    rw [hlist, List.length_cons, List.length_append] at h1
    omega
  refine postWithin_posts hrest _ t ready s c (by rw [TenderPool.issueHead_eq, hlist]; rfl) (hready t (.head _)) ?_
    (fun u hu => hready u (.tail _ hu)) hids' hc hp hk hf
  rw [hlist, List.filter_cons_of_neg (by simp), List.filter_eq_self]
  intro v hv
  exact bne_iff_ne.mpr fun h => hnot (h ▸ List.mem_map_of_mem hv)

/-! ### A tender that ends without posting (R63) -/

section
variable {p : TenderPool} {t : Tender} {before ready rest : List Tender}

/-- The other tenders of an issue list split at one have other ids. -/
theorem TenderPool.Splits.ids (h : p.Splits t before ready rest) :
    (∀ u ∈ before ++ (ready ++ rest), u.id ≠ t.id) ∧ ((before ++ (ready ++ rest)).map Tender.id).Nodup := by
  obtain ⟨-, -, -, -, -, hids⟩ := h
  rw [(List.perm_middle.map Tender.id).nodup_iff, List.map_cons, List.nodup_cons] at hids
  exact ⟨fun u hu he => hids.1 (he ▸ List.mem_map_of_mem hu), hids.2⟩

/-- The issue list once the tender it is split at has left the pool. -/
theorem TenderPool.Splits.left (h : p.Splits t before ready rest) (closed : List ClosedTender) :
    TenderPool.issueList { p with pool := p.without [t], closed := closed } t.check = before ++ (ready ++ rest) := by
  have hne := h.ids.1
  obtain ⟨hl, -⟩ := h
  rw [TenderPool.issueList_left, hl, List.filter_append, List.filter_cons_of_neg (by simp), ← List.filter_append,
    List.filter_eq_self]
  exact fun u hu => bne_iff_ne.mpr (hne u hu)

/-- The tender is the head of its issue list where no tender stands before it. -/
theorem TenderPool.Splits.head_iff (h : p.Splits t before ready rest) : p.issueHead t.check = some t ↔ before = [] := by
  have hne := h.ids.1
  obtain ⟨hl, -⟩ := h
  rw [TenderPool.issueHead_eq, hl]
  cases before with
  | nil => simp
  | cons u more => simpa using fun he => hne u (.head _) (congrArg Tender.id he)

end

/-- A state whose tender has left the pool, its departure not yet taken (R63). -/
def State.letGo (s : State) (t : Tender) (reason : EndReason) : State :=
  { s with
    tenders := { s.tenders with
      pool := s.tenders.without [t]
      closed := closedWith s.tenders.closed ⟨t.id, t.check, t.share, t.slot, reason, s.run.clock⟩ }
    radio := { s.radio with slots := s.radio.slots.set t.slot { s.slot t.slot with inFlight := none } } }

/-- A tender leaves the pool, and where it was the head of its issue list the READY tenders behind it post (R63, R64, R66). -/
theorem State.leavePool_posts {s : State} {t : Tender} {before ready rest : List Tender} {c : Check} (reason : EndReason)
    (hs : s.tenders.Splits t before ready rest) (hc : s.check t.check = some c)
    (hp : c.inPool = (before ++ (ready ++ rest)).length + 1)
    (hf : s.line.fits
      (afterHead s.store.settings s.checks { c with inPool := c.inPool - 1 } ready (before ++ rest)).notices) :
    (if before = [] then (s.leavePool t reason).postReady t.check else s.leavePool t reason) =
      (s.letGo t reason).posts ready
        (afterHead s.store.settings s.checks { c with inPool := c.inPool - 1 } ready (before ++ rest)) := by
  generalize hgone : { c with inPool := c.inPool - 1 } = gone at hf ⊢
  have hnum : gone.number = t.check := by
    rw [← hgone]
    exact findCheck_number (c := c) hc
  have hin : gone.inPool = (before ++ (ready ++ rest)).length := by
    rw [← hgone]
    show c.inPool - 1 = _
    omega
  have hleave : s.line.fits (departed s.store.settings s.checks gone).notices →
      s.leavePool t reason = (s.letGo t reason).withEvents (departed s.store.settings s.checks gone) := by
    intro hd
    rw [State.leavePool_departed hc (hgone ▸ hd), ← without_singleton, hgone]
    rfl
  have hlist : ∀ ev, ((s.letGo t reason).withEvents ev).tenders.issueList t.check = before ++ (ready ++ rest) := fun ev => hs.left _
  have hposts : ∀ ev, (s.letGo t reason).posts [] ev = (s.letGo t reason).withEvents ev := by
    intro ev
    rw [State.posts, without_nil]
    rfl
  obtain ⟨-, hready, hrest, hor, -⟩ := id hs
  cases ready with
  | nil =>
    rw [afterHead_nil (by simpa using hin)] at hf ⊢
    rw [hleave hf, hposts]
    split
    · rename_i hb
      subst hb
      exact postWithin_stops (by rw [hlist]; exact hrest rfl) _
    · rfl
  | cons u more =>
    obtain rfl : before = [] := hor.resolve_right (by simp)
    have hd : departed s.store.settings s.checks gone = ⟨gone, [], []⟩ := if_pos (by simp [hin])
    rw [if_pos rfl, hleave (by rw [hd]; exact .inl rfl), hd]
    have hafter : afterHead s.store.settings (Machine.putCheck s.checks gone) gone (u :: more) rest =
        afterHead s.store.settings s.checks gone (u :: more) rest := afterHead_putCheck _ _ _ _ rfl
    have hfits : ServerLine.fits { s.line with queue := s.line.queue ++ [] }
        (afterHead s.store.settings (Machine.putCheck s.checks gone) gone (u :: more) rest).notices := by
      rw [hafter, List.append_nil]
      exact hf
    have hat : ((s.letGo t reason).withEvents ⟨gone, [], []⟩).check t.check = some gone :=
      State.withEvents_check (s := s.letGo t reason) (c := c) (ev := ⟨gone, [], []⟩) hc hnum
    have hin' : gone.inPool = (more ++ rest).length + 1 := by simpa using hin
    rw [State.postReady_posts (hrest rfl) (hlist ⟨gone, [], []⟩) hready hs.ids.2 hat hin' hfits]
    refine (State.withEvents_posts (a := ⟨gone, [], []⟩) (afterHead_number ..).symm).trans ?_
    exact congrArg ((s.letGo t reason).posts (u :: more)) hafter

/-- What the rule that ended a tender has done by the time the tender leaves: the hold is released, its slot holds the entry `e`, and the
pool, the closed list, the settings and the clock stand. -/
structure Ending (s m : State) (t : Tender) (c : Check) (e : SlotEntry) : Prop where
  checks : m.checks = putCheck s.checks (c.release t.share t.hold)
  tenders : m.tenders = s.tenders
  slots : m.radio.slots = s.radio.slots.set t.slot e
  settings : m.store.settings = s.store.settings
  clock : m.run.clock = s.run.clock

/-- A tender that ends without posting: what its rule has done, its departure, and the READY tenders behind it where it was the head
(R63, R64, R66). -/
theorem State.endTender_ends {s m : State} {t : Tender} {before ready rest : List Tender} {c : Check} {e : SlotEntry}
    {reason : EndReason} {messages : State → State} (hs : s.tenders.Splits t before ready rest) (hc : s.check t.check = some c)
    (hp : c.inPool = (before ++ (ready ++ rest)).length + 1) (hm : messages (s.releaseHold t.check t.share t.hold) = m)
    (he : Ending s m t c e) {events : CheckEvents}
    (hev : afterHead s.store.settings s.checks { c.release t.share t.hold with inPool := c.inPool - 1 } ready (before ++ rest) = events)
    (hf : m.line.fits events.notices) :
    s.endTender t reason messages = { m with
      checks := Machine.putCheck s.checks events.check
      tenders := { s.tenders with
        pool := s.tenders.without (t :: ready)
        closed := closedPosted s.run.clock
          (closedWith s.tenders.closed ⟨t.id, t.check, t.share, t.slot, reason, s.run.clock⟩) ready }
      radio := { m.radio with slots := slotsPosted (s.radio.slots.set t.slot { e with inFlight := none }) ready }
      journal := m.journal.appendAll s.run.clock events.records
      line := { m.line with queue := m.line.queue ++ events.notices } } := by
  obtain ⟨hchecks, htenders, hslots, hset, hclock⟩ := he
  have hnum : c.number = t.check := findCheck_number hc
  have hmc : m.check t.check = some (c.release t.share t.hold) := by
    rw [State.check, hchecks]
    exact hnum ▸ findCheck_putCheck_same (c := c.release t.share t.hold) (c' := c) (hnum ▸ hc)
  have hafter : afterHead m.store.settings m.checks { c.release t.share t.hold with inPool := c.inPool - 1 } ready (before ++ rest) =
      events := by
    rw [hset, hchecks, afterHead_putCheck _ _ _ _ (by rfl), hev]
  have hput : Machine.putCheck m.checks events.check = Machine.putCheck s.checks events.check := by
    have : events.check.number = c.number := hev ▸ afterHead_number ..
    rw [hchecks, putCheck_putCheck (c := c.release t.share t.hold) this.symm]
  have hslot : m.slot t.slot = e := by
    rw [State.slot, hslots]
    simp
  have hend := State.leavePool_posts reason (htenders ▸ hs) hmc (by exact hp) (by exact hafter.symm ▸ hf)
  have hhead : s.endTender t reason messages =
      if before = [] then (m.leavePool t reason).postReady t.check else m.leavePool t reason := by
    simp only [State.endTender, hm, hs.head_iff]
  rw [hhead, hend]
  refine (congrArg ((m.letGo t reason).posts ready) hafter).trans ?_
  have hcleared : m.radio.slots.set t.slot { e with inFlight := none } = s.radio.slots.set t.slot { e with inFlight := none } := by
    rw [hslots, Vector.set_set]
  rw [← hput, ← htenders, ← hclock, ← hcleared, ← hslot,
    ← without_without m.tenders (closedWith m.tenders.closed ⟨t.id, t.check, t.share, t.slot, reason, m.run.clock⟩)]
  rfl

end Sys2Proof.Machine
end

section
/-! Tenders that end: expiry, decline and cancel, and the failed append (R56 to R58, R62). -/

namespace Sys2Proof.Machine

open Sys2Proof

/-- A raise whose notice, if it queues one, finds a place is admitted (R171). -/
theorem State.admits_of_places {s : State} {code : FaultCode} {source : FaultSource} {bytes : Bytes}
    (h : s.line.places + (s.faultNotices code source bytes).length ≤ 56) : s.admits code := by
  unfold State.faultNotices at h
  dsimp only at h
  split at h
  · exact .inl (by simpa using h)
  · rename_i hn
    by_cases hc : s.faults.captures code
    · exact .inr (.inr (by simpa [hc] using hn))
    · exact .inr (.inl hc)

theorem State.releaseHold_eq {s : State} {n share r : Nat} {c : Check} (hc : s.check n = some c) :
    s.releaseHold n share r = s.putCheck (c.release share r) := by
  rw [State.releaseHold, hc]

/-- An OUTCOME placed at a slot that is not MUTED (R97). -/
theorem State.placeOutcome_open {s : State} {i : Slot} (o : OutcomeItem) (h : (s.slot i).mode ≠ .routed .muted) :
    s.placeOutcome i o = s.putSlot i
      { s.slot i with outcome := some ((s.slot i).nextItem, o), display := none, nextItem := itemAfter (s.slot i).nextItem } := by
  rw [State.placeOutcome, SlotEntry.placeOutcome_open o h]

/-- AUTO sets an UP uplink DOWN at this count (R75). -/
abbrev State.autoDown (s : State) (count : Nat) : Prop :=
  s.store.settings.autoDownCount ≠ 0 ∧ s.uplink.state = .up ∧ s.store.settings.autoDownCount ≤ count

/-- The uplink set DOWN by AUTO, with its record (R73, R75). -/
def State.wentDown (s : State) (count : Nat) : State :=
  { s with
    uplink := { s.uplink with count := count, state := .down, setBy := .auto }
    journal := s.journal.append s.run.clock { kind := .uplinkChanged, amount := count, flags := 4 } }

/-- Uplink Control after an expiry, its notice admitted (R75, R153). -/
def State.expiryCounted (s : State) : State :=
  let count := min 255 (s.uplink.count + 1)
  if s.autoDown count then (s.wentDown count).faulted .uplinkAutoDown .uplink []
  else { s with uplink := { s.uplink with count := count } }

/-- An expiry is counted where the queue has room for what it leaves (R75). -/
theorem State.countExpiry_eq {s : State} (h : s.expiryCounted.line.places ≤ 56) : s.countExpiry = s.expiryCounted := by
  rw [State.countExpiry, State.expiryCounted] at *
  dsimp only at h ⊢
  by_cases hd : s.autoDown (min 255 (s.uplink.count + 1))
  · rw [if_pos hd] at h ⊢
    have hadm : (s.wentDown (min 255 (s.uplink.count + 1))).admits .uplinkAutoDown :=
      State.admits_of_places (source := .uplink) (bytes := []) (by
        simpa [ServerLine.places, Nat.add_right_comm] using h)
    rw [if_pos (by exact hd), ← State.raise_faulted _ _ hadm]
    rfl
  · rw [if_neg (by exact hd), if_neg hd]
    rfl

/-- An expiry takes places of the queue and gives none back. -/
theorem State.expiryCounted_places (s : State) : s.line.places ≤ s.expiryCounted.line.places := by
  rw [State.expiryCounted]
  dsimp only
  split
  · simp only [State.faulted_line, ServerLine.places, List.length_append]
    show s.line.queue.length + s.line.owed ≤ s.line.queue.length + _ + s.line.owed
    omega
  · rfl

/-- Counting an expiry leaves the pool, the store and the clock. -/
theorem State.expiryCounted_keeps (s : State) :
    s.expiryCounted.tenders = s.tenders ∧ s.expiryCounted.store = s.store ∧ s.expiryCounted.run.clock = s.run.clock := by
  rw [State.expiryCounted]
  dsimp only
  split
  · exact ⟨rfl, rfl, rfl⟩
  · exact ⟨rfl, rfl, rfl⟩

/-- A state with another Check Table and another route map. -/
def State.over (s : State) (checks : List Check) (radio : Radio) : State := { s with checks := checks, radio := radio }

theorem State.over_faulted (s : State) (checks : List Check) (radio : Radio) (code : FaultCode) (source : FaultSource) (bytes : Bytes) :
    (s.over checks radio).faulted code source bytes = (s.faulted code source bytes).over checks radio := rfl

theorem State.over_expiryCounted (s : State) (checks : List Check) (radio : Radio) :
    (s.over checks radio).expiryCounted = s.expiryCounted.over checks radio := by
  simp only [State.expiryCounted]
  by_cases hd : s.autoDown (min 255 (s.uplink.count + 1))
  · rw [if_pos (by exact hd), if_pos hd]
    rfl
  · rw [if_neg (by exact hd), if_neg hd]
    rfl

/-- What the expiry of a tender reports before Uplink Control counts it: the record and the reversal (R58, R68). -/
def State.expiryTold (s : State) (t : Tender) : State :=
  { s with
    journal := s.journal.append s.run.clock (tenderRecord .tenderTimedOut t)
    line := { s.line with queue := s.line.queue ++ [reversalNotice t 0 noCode .timedOut] } }

/-- The entry of a slot that has been answered, its tender still in flight. -/
def SlotEntry.answered (e : SlotEntry) (o : OutcomeItem) : SlotEntry :=
  { e with outcome := some (e.nextItem, o), display := none, nextItem := itemAfter e.nextItem }

/-- The effects of an expiry in order, up to the leaving of the pool (R58; log 15). -/
theorem State.expiry_messages {s : State} {t : Tender} {checks : List Check} (hmode : (s.slot t.slot).mode ≠ .routed .muted)
    (hf : ((s.expiryTold t).faulted .authTimeout .uplink []).expiryCounted.line.places ≤ 56) :
    ((((((s.setChecks checks).appendRecord (tenderRecord .tenderTimedOut t)).offer (reversalNotice t 0 noCode .timedOut)).placeOutcome
      t.slot (plainOutcome t .noAnswer)).raise .authTimeout .uplink []).countExpiry) =
      ((s.expiryTold t).faulted .authTimeout .uplink []).expiryCounted.over checks
        { s.radio with slots := s.radio.slots.set t.slot ((s.slot t.slot).answered (plainOutcome t .noAnswer)) } := by
  generalize hradio : { s.radio with
    slots := s.radio.slots.set t.slot ((s.slot t.slot).answered (plainOutcome t .noAnswer)) } = radio
  have hplaces := State.expiryCounted_places ((s.expiryTold t).faulted .authTimeout .uplink [])
  have htold : (s.expiryTold t).line.places + ((s.expiryTold t).faultNotices .authTimeout .uplink []).length ≤ 56 := by
    refine Nat.le_trans (Nat.le_of_eq ?_) (Nat.le_trans hplaces hf)
    simp [ServerLine.places, Nat.add_right_comm]
  have hroom : s.line.places < 56 := by
    have : (s.expiryTold t).line.places = s.line.places + 1 := by
      simp [State.expiryTold, ServerLine.places, Nat.add_right_comm]
    omega
  have hplaced : (((s.setChecks checks).appendRecord (tenderRecord .tenderTimedOut t)).offer
      (reversalNotice t 0 noCode .timedOut)).placeOutcome t.slot (plainOutcome t .noAnswer) = (s.expiryTold t).over checks radio := by
    rw [State.offer_room _ _ (by exact hroom), State.placeOutcome_open _ (by exact hmode), ← hradio]
    rfl
  have hadm : ((s.expiryTold t).over checks radio).admits .authTimeout := State.admits_of_places htold
  rw [hplaced, State.raise_faulted _ _ hadm, State.over_faulted, State.countExpiry_eq, State.over_expiryCounted]
  rw [State.over_expiryCounted]
  exact hf

end Sys2Proof.Machine

open Sys2Proof Sys2Proof.Machine

/-- Settles O30: an expiry that is due is an ending whose messages are counted by Uplink Control. -/
theorem expiryEnds : Obligations.ExpiryEnds := by
  intro s tender t hlive hfind hstate
  have hexec : exec (.authExpiry tender) s = .next (if s.live && expiryDue s t then s.expireTender t else s) := by
    show execAuthExpiry tender s = _
    rw [execAuthExpiry, hfind]
  refine ⟨fun h1 h2 => ?_, fun before ready rest c hdue hs hc hp hmode => ?_⟩
  · have hnot : expiryDue s t = false := by simp [expiryDue, Nat.not_le.mpr h1, h2, Config.clockTop]
    rw [hexec, hnot, Bool.and_false, if_neg Bool.false_ne_true]
  · have hdue' : (s.live && expiryDue s t) = true := by simpa [hlive, expiryDue, hstate, Config.clockTop] using hdue
    intro limit count down released events told timedOut counted e answered hf
    have hcounted : counted = ((s.expiryTold t).faulted .authTimeout .uplink []).expiryCounted := rfl
    have hm := State.expiry_messages (checks := putCheck s.checks (c.release t.share t.hold)) hmode
      (Nat.le_trans (Nat.le_add_right ..) hf)
    rw [hexec, if_pos hdue']
    refine congrArg _ ?_
    obtain ⟨htenders, hstore, hclock⟩ := State.expiryCounted_keeps ((s.expiryTold t).faulted .authTimeout .uplink [])
    have he : Ending s (counted.over (putCheck s.checks (c.release t.share t.hold))
        { s.radio with slots := s.radio.slots.set t.slot ((s.slot t.slot).answered (plainOutcome t .noAnswer)) }) t c
        ((s.slot t.slot).answered (plainOutcome t .noAnswer)) :=
      ⟨rfl, htenders, rfl, congrArg SettingStore.settings hstore, hclock⟩
    exact State.endTender_ends hs hc hp (by rw [State.releaseHold_eq hc]; exact hm) he rfl (.inr hf)
end

section
/-! Results that end a tender: declines, and any result for a tender whose cancel was requested (R54, R56, R57). -/

namespace Sys2Proof.Machine

open Sys2Proof

/-! ### What TENDER QUERY and AUTH RESULT find of a tender that has left -/

theorem closedWith_keeps {front back : List ClosedTender} {x : ClosedTender} (y : ClosedTender) (h : back.length + 1 < 16) :
    closedWith (front ++ x :: back) y =
      front.drop (front.length + back.length + 2 - 16) ++ x :: (back ++ [y]) := by
  have hk : (front ++ x :: back).length + 1 - 16 = front.length + back.length + 2 - 16 := by
    simp only [List.length_append, List.length_cons]
    omega
  rw [closedWith, hk, List.append_assoc, List.drop_append_of_le_length (by omega), List.cons_append]

/-- A closed tender stays in the list while fewer than 16 join it (R46). -/
theorem closedPosted_keeps {clock : Nat} {x : ClosedTender} (posted : List Tender) (front back : List ClosedTender)
    (hid : ∀ y ∈ front, y.id ≠ x.id) (h : back.length + posted.length < 16) :
    ∃ front' back', closedPosted clock (front ++ x :: back) posted = front' ++ x :: back' ∧ ∀ y ∈ front', y.id ≠ x.id := by
  induction posted generalizing front back with
  | nil => exact ⟨front, back, rfl, hid⟩
  | cons t posted ih =>
    rw [List.length_cons] at h
    have := ih (front.drop (front.length + back.length + 2 - 16)) (back ++ [⟨t.id, t.check, t.share, t.slot, .posted, clock⟩])
      (fun y hy => hid y (List.mem_of_mem_drop hy)) (by rw [List.length_append]; simp; omega)
    rwa [← closedWith_keeps _ (by omega)] at this

/-- A tender that left the pool with fewer than 16 postings behind it is found in the closed list (R46). -/
theorem TenderPool.findClosed_left {p : TenderPool} {clock : Nat} {x : ClosedTender} {posted : List Tender}
    (hnone : p.findClosed x.id = none) (hlen : posted.length < 16) (pool : List Tender) :
    TenderPool.findClosed { p with pool := pool, closed := closedPosted clock (closedWith p.closed x) posted } x.id = some x := by
  have hfront : ∀ y ∈ p.closed.drop (p.closed.length + 1 - 16), y.id ≠ x.id := by
    intro y hy
    simpa using List.find?_eq_none.mp hnone y (List.mem_of_mem_drop hy)
  have hjoin : closedWith p.closed x = p.closed.drop (p.closed.length + 1 - 16) ++ [x] := by
    rw [closedWith, List.drop_append_of_le_length (by omega)]
  obtain ⟨front, back, he, hid⟩ := closedPosted_keeps (clock := clock) posted _ [] hfront (by simpa using hlen)
  rw [TenderPool.findClosed, hjoin, he, List.find?_append, List.find?_cons_of_pos (by simp),
    List.find?_eq_none.mpr (fun y hy => by simpa using hid y hy)]
  rfl

/-- The standing of a tender that has left (R54). -/
theorem tenderStanding_left {p : TenderPool} {clock : Nat} {t : Tender} {reason : EndReason} {ready : List Tender}
    (hnone : p.findClosed t.id = none) (hlen : ready.length < 16) :
    tenderStanding { p with
      pool := p.without (t :: ready)
      closed := closedPosted clock (closedWith p.closed ⟨t.id, t.check, t.share, t.slot, reason, clock⟩) ready } t.id =
      [reason.code] := by
  have hgone : TenderPool.find { p with
      pool := p.without (t :: ready)
      closed := closedPosted clock (closedWith p.closed ⟨t.id, t.check, t.share, t.slot, reason, clock⟩) ready } t.id = none := by
    refine List.find?_eq_none.mpr fun u hu => ?_
    have := (List.mem_filter.mp hu).2
    rw [List.all_cons, Bool.and_eq_true] at this
    simpa using this.1
  have hclosed := TenderPool.findClosed_left (clock := clock) (x := ⟨t.id, t.check, t.share, t.slot, reason, clock⟩) hnone hlen
    (p.without (t :: ready))
  simp only [tenderStanding, hgone]
  rw [hclosed]

/-! ### Over-approvals -/

/-- A state after the test for an over-approval, its notice admitted (R55, R57, R153). -/
def State.approvalRaised (s : State) (t : Tender) (approved : Nat) (bytes : Bytes) : State :=
  if t.requested < approved then s.faulted .overApproval .serverLine bytes else s

theorem State.overApproval_eq {s : State} {t : Tender} {approved : Nat} {bytes : Bytes}
    (h : (s.approvalRaised t approved bytes).line.places ≤ 56) : s.overApproval t approved bytes = s.approvalRaised t approved bytes := by
  rw [State.overApproval, State.approvalRaised] at *
  split
  · rename_i hr
    rw [if_pos hr] at h
    refine State.raise_faulted _ _ (State.admits_of_places (source := .serverLine) (bytes := bytes) ?_)
    simpa [ServerLine.places, Nat.add_right_comm] using h
  · rfl

theorem State.approvalRaised_take (s : State) (t : Tender) (approved : Nat) (bytes : Bytes) :
    s.approvalRaised t approved (bytes.take 8) = s.approvalRaised t approved bytes := by
  rw [State.approvalRaised, State.approvalRaised, State.faulted_take]

/-- An over-approval leaves the pool, the uplink, the route map, the store and the clock, and only adds to the queue. -/
theorem State.approvalRaised_keeps (s : State) (t : Tender) (approved : Nat) (bytes : Bytes) :
    (s.approvalRaised t approved bytes).tenders = s.tenders ∧ (s.approvalRaised t approved bytes).radio = s.radio ∧
      (s.approvalRaised t approved bytes).store = s.store ∧ (s.approvalRaised t approved bytes).run.clock = s.run.clock ∧
      (s.approvalRaised t approved bytes).checks = s.checks ∧
      s.line.queue <+: (s.approvalRaised t approved bytes).line.queue := by
  rw [State.approvalRaised]
  split
  · exact ⟨rfl, rfl, rfl, rfl, rfl, List.prefix_append ..⟩
  · exact ⟨rfl, rfl, rfl, rfl, rfl, List.prefix_rfl⟩

/-! ### Endings by a result -/

/-- An OUTCOME placed at a slot whose entry no earlier effect of the event has changed. -/
theorem State.placeOutcome_answered {s u : State} {i : Slot} (o : OutcomeItem) (hradio : u.radio = s.radio)
    (hmode : (s.slot i).mode ≠ .routed .muted) :
    u.placeOutcome i o = { u with radio := { s.radio with slots := s.radio.slots.set i ((s.slot i).answered o) } } := by
  have hslot : u.slot i = s.slot i := State.slot_of_radio hradio i
  rw [State.placeOutcome_open _ (by rw [hslot]; exact hmode), hslot, ← hradio]
  rfl

/-- Records written and notices queued, in order. -/
def State.reported (s : State) (records : List JournalRecord) (notices : List Frame) : State :=
  { s with
    journal := s.journal.appendAll s.run.clock records
    line := { s.line with queue := s.line.queue ++ notices } }

theorem Journal.appendAll_append (j : Journal) (clock : Nat) (a b : List JournalRecord) :
    j.appendAll clock (a ++ b) = (j.appendAll clock a).appendAll clock b := List.foldl_append ..

/-- What the result for a cancelled tender writes (R57, R68). -/
def cancelledRecords (t : Tender) (approved : Nat) (code : Bytes) : List JournalRecord :=
  (if 0 < approved then
    [{ tenderRecord .reversalSent t with amount := min approved t.requested, tip := 0, code := codeNumber code }] else []) ++
    [tenderRecord .tenderCancelled t]

/-- What it queues (R57, R68). -/
def cancelledNotices (t : Tender) (approved : Nat) (code : Bytes) : List Frame :=
  if 0 < approved then [reversalNotice t (min approved t.requested) code .cancelled] else []

theorem State.approvalRaised_zero (s : State) (t : Tender) (bytes : Bytes) : s.approvalRaised t 0 bytes = s :=
  if_neg (Nat.not_lt_zero _)

theorem State.cancelled_messages {s : State} {t : Tender} {approved : Nat} {code bytes : Bytes} {checks : List Check}
    (hmode : (s.slot t.slot).mode ≠ .routed .muted)
    (hf : (s.approvalRaised t approved bytes).line.fits (cancelledNotices t approved code)) :
    (((if 0 < approved then
        (((s.setChecks checks).overApproval t approved bytes).appendRecord
          { tenderRecord .reversalSent t with amount := min approved t.requested, tip := 0, code := codeNumber code }).offer
            (reversalNotice t (min approved t.requested) code .cancelled)
      else s.setChecks checks).appendRecord (tenderRecord .tenderCancelled t)).placeOutcome t.slot (plainOutcome t .cancelled)) =
      ((s.approvalRaised t approved bytes).reported (cancelledRecords t approved code) (cancelledNotices t approved code)).over checks
        { s.radio with slots := s.radio.slots.set t.slot ((s.slot t.slot).answered (plainOutcome t .cancelled)) } := by
  obtain ⟨-, hradio, -, -, hchecks, -⟩ := State.approvalRaised_keeps s t approved bytes
  by_cases ha : 0 < approved
  · have hset : (s.setChecks checks).approvalRaised t approved bytes = (s.approvalRaised t approved bytes).setChecks checks := by
      rw [State.approvalRaised, State.approvalRaised]
      split <;> rfl
    rw [cancelledNotices, if_pos ha] at hf
    rw [if_pos ha, cancelledRecords, cancelledNotices, if_pos ha, if_pos ha, State.overApproval_eq, hset, State.offer_fits (by exact hf),
      State.placeOutcome_answered (s := s) _ (by exact hradio) hmode]
    · rfl
    · rw [hset]
      obtain hf | hf := hf
      · cases hf
      · exact Nat.le_trans (Nat.le_add_right ..) hf
  · obtain rfl : approved = 0 := by omega
    rw [if_neg ha, cancelledRecords, cancelledNotices, if_neg ha, if_neg ha, State.placeOutcome_answered (s := s) _ (by rfl) hmode,
      State.approvalRaised_zero]
    simp only [State.reported, List.append_nil]
    rfl

/-- What follows a result that ends a tender: what its rule did, then the departure and the postings behind it. -/
def State.endedBy (m s : State) (t : Tender) (ready : List Tender) (events : CheckEvents) (o : OutcomeItem) (reason : EndReason) :
    State :=
  { m with
    checks := Machine.putCheck s.checks events.check
    tenders := { s.tenders with
      pool := s.tenders.without (t :: ready)
      closed := closedPosted s.run.clock
        (closedWith s.tenders.closed ⟨t.id, t.check, t.share, t.slot, reason, s.run.clock⟩) ready }
    radio := { s.radio with
      slots := slotsPosted (s.radio.slots.set t.slot { (s.slot t.slot).answered o with inFlight := none }) ready }
    journal := m.journal.appendAll s.run.clock events.records
    line := { m.line with queue := m.line.queue ++ events.notices } }

theorem State.reported_endedBy {m s : State} {t : Tender} {ready : List Tender} {events : CheckEvents} {o : OutcomeItem}
    {reason : EndReason} {records : List JournalRecord} {notices : List Frame} (hclock : m.run.clock = s.run.clock) :
    (m.reported records notices).endedBy s t ready events o reason =
      m.endedBy s t ready ⟨events.check, records ++ events.records, notices ++ events.notices⟩ o reason := by
  simp only [State.endedBy, State.reported, hclock, Journal.appendAll_append, List.append_assoc]

section
variable {s : State} {t : Tender} {before ready rest : List Tender} {c : Check} {events : CheckEvents}
  (hs : s.tenders.Splits t before ready rest) (hc : s.check t.check = some c)
  (hp : c.inPool = (before ++ (ready ++ rest)).length + 1) (hmode : (s.slot t.slot).mode ≠ .routed .muted)
  (hev : afterHead s.store.settings s.checks { c.release t.share t.hold with inPool := c.inPool - 1 } ready (before ++ rest) = events)
include hs hc hp hmode hev

/-- A cancelled tender ends with its reversal where the result approved it (R57, R63). -/
theorem State.takeCancelled_ends {approved : Nat} {code bytes : Bytes}
    (hf : (s.approvalRaised t approved bytes).line.fits (cancelledNotices t approved code ++ events.notices)) :
    s.takeCancelled t approved code bytes =
      ((s.approvalRaised t approved bytes).reported (cancelledRecords t approved code) (cancelledNotices t approved code)).endedBy
        s t ready events (plainOutcome t .cancelled) .cancelled := by
  obtain ⟨h1, h2⟩ := ServerLine.fits_append hf
  obtain ⟨htenders, hradio, hstore, hclock, -, -⟩ := State.approvalRaised_keeps s t approved bytes
  have he : Ending s (((s.approvalRaised t approved bytes).reported (cancelledRecords t approved code)
      (cancelledNotices t approved code)).over (Machine.putCheck s.checks (c.release t.share t.hold))
        { s.radio with slots := s.radio.slots.set t.slot ((s.slot t.slot).answered (plainOutcome t .cancelled)) }) t c
      ((s.slot t.slot).answered (plainOutcome t .cancelled)) :=
    ⟨rfl, htenders, rfl, congrArg SettingStore.settings hstore, hclock⟩
  rw [State.takeCancelled]
  refine State.endTender_ends hs hc hp ?_ he hev h2
  rw [State.releaseHold_eq hc]
  exact State.cancelled_messages hmode h1

/-- A declined tender ends with its record (R53, R56, R62, R63). -/
theorem State.decline_ends {reason : U8} {host : Bool} (hf : s.line.fits events.notices) :
    s.decline t reason host =
      (s.reported [{ tenderRecord .tenderDeclined t with flags := reason, hostReason := host }] []).endedBy
        s t ready events (declinedOutcome t reason host) .declined := by
  have he : Ending s ((s.reported [{ tenderRecord .tenderDeclined t with flags := reason, hostReason := host }] []).over
        (Machine.putCheck s.checks (c.release t.share t.hold))
        { s.radio with slots := s.radio.slots.set t.slot ((s.slot t.slot).answered (declinedOutcome t reason host)) }) t c
      ((s.slot t.slot).answered (declinedOutcome t reason host)) := ⟨rfl, rfl, rfl, rfl, rfl⟩
  have hline : (s.reported [{ tenderRecord .tenderDeclined t with flags := reason, hostReason := host }] []).line = s.line := by
    simp only [State.reported, List.append_nil]
  rw [State.decline]
  refine State.endTender_ends hs hc hp ?_ he hev (by exact hline ▸ hf)
  rw [State.releaseHold_eq hc, State.placeOutcome_answered (s := s) _ (by rfl) hmode]
  simp only [State.over, hline]
  rfl

end

/-! ### AUTH RESULT -/

/-- The amount an AUTH RESULT approves: none where it declines (R54, R56). -/
def approvedAmount (outcome : U8) (approved : U32) : Nat := if outcome = 3 then 0 else approved.toNat

/-- What an AUTH RESULT does to the AWAITING tender it names (R55 to R57). -/
def State.takeResult (s : State) (t : Tender) (approved : Nat) (code bytes : Bytes) (reason : U8) : State :=
  if t.cancelRequested then s.takeCancelled t approved code bytes
  else if 0 < approved then s.takeApproval t approved code bytes
  else s.decline t reason true

/-- An AUTH RESULT for an AWAITING tender sets the count to 0, is taken, and answers what has become of the tender (R54). -/
theorem authResult_awaiting {s : State} {bytes : Bytes} {tender : U16} {outcome : U8} {approved : U32} {code : Bytes} {reason : U8}
    {t : Tender} (hs : s.run.state ≠ .halted) (ho : outcome = 1 ∨ outcome = 2 ∨ outcome = 3)
    (hf : s.tenders.find tender.toNat = some t) (hw : t.state = .awaiting) :
    authResult bytes tender outcome approved code reason s =
      (s.countAnswer.takeResult t (approvedAmount outcome approved) code bytes reason,
        .accepted (tenderStanding
          (s.countAnswer.takeResult t (approvedAmount outcome approved) code bytes reason).tenders t.id)) := by
  have hh : ¬s.halted = true := by simpa [State.halted] using hs
  have ho' : ¬(outcome ≠ 1 ∧ outcome ≠ 2 ∧ outcome ≠ 3) := fun h => by
    rcases ho with ho | ho | ho
    · exact h.1 ho
    · exact h.2.1 ho
    · exact h.2.2 ho
  simp only [authResult, if_neg hh, if_neg ho', hf, if_pos hw]
  rfl

/-- An AUTH RESULT that is taken, its work done and its reply among the notices of that work (R54, R169; log 5). -/
theorem exec_authResult {s done : State} {tag : U8} {tender : U16} {outcome : U8} {approved : U32} {code : Bytes} {reason : U8}
    {t : Tender} {data : Bytes} (ht : s.takes tag) (hs : s.run.state ≠ .halted) (hl : code.length = 6)
    (hcode : code.all codeChar = true) (ho : outcome = 1 ∨ outcome = 2 ∨ outcome = 3)
    (hf : s.tenders.find tender.toNat = some t) (hw : t.state = .awaiting)
    (hdone : s.owe.countAnswer.takeResult t (approvedAmount outcome approved) code
      (((HostCommand.authResult tender outcome approved code reason).frame tag).take 8) reason = done)
    (hstand : tenderStanding done.tenders t.id = data) (hq : s.line.queue <+: done.line.queue) :
    ∃ u : State, exec (.authResult tag tender outcome approved code reason) s = .next u ∧
      answeredFrom s done u ((Reply.accepted data).frame 0x10 tag) := by
  refine ⟨_, exec_taken (c := .authResult tender outcome approved code reason) rfl ht (by simp [HostCommand.wf, hl])
    (by simp [HostCommand.badCode, hcode]), State.answer_answeredFrom ?_ hq⟩
  rw [authResult_awaiting (by exact hs) ho (by exact hf) hw, hdone, hstand]

end Sys2Proof.Machine

open Sys2Proof Sys2Proof.Machine

/-- Settles O28: a result that ends its tender is an ending whose messages are those of the cancel or of the decline. -/
theorem declineEnds : Obligations.DeclineEnds := by
  intro s tag tender outcome approved code reason t before ready rest c ht hs hl hcode ho hends hf hw hsplit hnone hc hp hmode
    reversed clamped a released events counted raised notices records e why answered hfits
  have hlen : ready.length < 16 := by
    obtain ⟨-, -, -, -, hlen, -⟩ := hsplit
    omega
  have hamount : (reversed ∧ approvedAmount outcome approved = approved.toNat ∧ 0 < approvedAmount outcome approved) ∨
      (¬reversed ∧ approvedAmount outcome approved = 0) := by
    by_cases h3 : outcome = 3
    · exact .inr ⟨fun h => h.1 h3, if_pos h3⟩
    · rw [approvedAmount, if_neg h3]
      by_cases h0 : 0 < approved.toNat
      · exact .inl ⟨⟨h3, h0⟩, rfl, h0⟩
      · exact .inr ⟨fun h => h0 h.2, by omega⟩
  generalize hamt : approvedAmount outcome approved = amount at hamount
  have hraised : counted.approvalRaised t amount
      (((HostCommand.authResult tender outcome approved code reason).frame tag).take 8) = raised := by
    rw [State.approvalRaised_take]
    rcases hamount with ⟨hr, rfl, -⟩ | ⟨hr, rfl⟩
    · exact if_congr (by simp only [clamped, hr, true_and]; rfl) rfl rfl
    · rw [State.approvalRaised_zero]
      exact (if_neg fun h => hr h.1).symm
  obtain ⟨-, -, -, hclock, -, hq⟩ := State.approvalRaised_keeps counted t amount
    (((HostCommand.authResult tender outcome approved code reason).frame tag).take 8)
  rw [hraised] at hclock hq
  refine exec_authResult ht hs hl hcode ho hf hw ?_ (tenderStanding_left hnone hlen) (hq.trans (List.prefix_append ..))
  rw [hamt, State.takeResult]
  by_cases hcancel : t.cancelRequested = true
  · have hn : cancelledNotices t amount code ++ events.notices = notices := by
      rcases hamount with ⟨hr, rfl, h0⟩ | ⟨hr, rfl⟩
      · simp only [cancelledNotices, notices, if_pos hr, if_pos h0]
        rfl
      · simp only [cancelledNotices, notices, if_neg hr, Nat.lt_irrefl, if_false]
    have hrec : cancelledRecords t amount code = records := by
      rcases hamount with ⟨hr, rfl, h0⟩ | ⟨hr, rfl⟩
      · simp only [cancelledRecords, records, if_pos hr, if_pos h0, if_pos hcancel]
        rfl
      · simp only [cancelledRecords, records, if_neg hr, Nat.lt_irrefl, if_false, if_pos hcancel]
    have hend := State.takeCancelled_ends (s := counted) (events := events) (code := code) hsplit hc hp hmode rfl
      (by rw [hraised, hn]; exact hfits)
    rw [hraised, State.reported_endedBy (by exact hclock), hrec, hn] at hend
    simp only [why, answered, if_pos hcancel]
    exact hend
  · have hr : ¬reversed := fun hr => by
      rcases hends with h | h | h
      · exact hr.1 h
      · exact absurd hr.2 (by simp [h])
      · exact hcancel h
    obtain ⟨-, h0⟩ := hamount.resolve_left fun h => hr h.1
    subst h0
    have hn : notices = events.notices := by simp only [notices, if_neg hr, List.nil_append]
    have hc' : raised = counted := if_neg fun h => hr h.1
    have hend := State.decline_ends (s := counted) (events := events) (reason := reason) (host := true) hsplit hc hp hmode rfl
      (by rw [← hn, ← hc']; exact hfits)
    rw [State.reported_endedBy rfl] at hend
    simp only [why, answered, records, if_neg hcancel, if_neg hr, Nat.lt_irrefl, if_false, hc', hn]
    exact hend
end

section
/-! An approval of the head of an issue list: it posts at the same event, and the READY tenders behind it (R55, R64, R65). -/

namespace Sys2Proof.Machine

open Sys2Proof

/-- A tender put back at the head of its issue list is the head. -/
theorem issueHead_put {pool : List Tender} {t t' : Tender} (hcheck : t'.check = t.check)
    (h : pool.find? (fun u => u.check == t.check) = some t) :
    (pool.map fun u => if u.id = t.id then t' else u).find? (fun u => u.check == t.check) = some t' := by
  induction pool with
  | nil => simp at h
  | cons u pool ih =>
    by_cases hid : u.id = t.id
    · simp [hid, hcheck]
    · rw [List.map_cons, if_neg hid]
      by_cases hu : u.check = t.check
      · rw [List.find?_cons_of_pos (by simpa using hu), Option.some.injEq] at h
        exact absurd (congrArg Tender.id h) hid
      · rw [List.find?_cons_of_neg (by simpa using hu)] at h ⊢
        exact ih h

/-- What leaves the pool does not depend on what was put back under an id that leaves. -/
theorem filter_put {pool : List Tender} {t t' : Tender} {p : Tender → Bool} (ht : p t' = false)
    (h : ∀ u, u.id = t.id → p u = false) : (pool.map fun u => if u.id = t.id then t' else u).filter p = pool.filter p := by
  induction pool with
  | nil => rfl
  | cons u pool ih =>
    rw [List.map_cons, List.filter_cons, List.filter_cons, ih]
    by_cases hid : u.id = t.id
    · rw [if_pos hid, ht, h u hid]
      rfl
    · rw [if_neg hid]

/-- The same tender by id, check, share and slot. -/
structure SameTender (t t' : Tender) : Prop where
  id : t'.id = t.id
  check : t'.check = t.check
  share : t'.share = t.share
  slot : t'.slot = t.slot

/-- A READY tender put back at the head of its issue list posts, and the READY tenders behind it (R64, R66). -/
theorem State.putTender_posts {s : State} {t t' : Tender} {ready rest : List Tender} {c : Check} {events : CheckEvents}
    (h : SameTender t t') (ht : t'.state = .ready) (hs : s.tenders.Splits t [] ready rest) (hc : s.check t.check = some c)
    (hp : c.inPool = (ready ++ rest).length + 1)
    (hev : afterHead s.store.settings s.checks c (t' :: ready) rest = events) (hf : s.line.fits events.notices) :
    (s.putTender t').postReady t.check = { s with
      checks := Machine.putCheck s.checks events.check
      tenders := { s.tenders with
        pool := s.tenders.without (t :: ready), closed := closedPosted s.run.clock s.tenders.closed (t :: ready) }
      radio := { s.radio with slots := slotsPosted s.radio.slots (t' :: ready) }
      journal := s.journal.appendAll s.run.clock events.records
      line := { s.line with queue := s.line.queue ++ events.notices } } := by
  obtain ⟨hids, hnodup⟩ := hs.ids
  obtain ⟨hlist, hready, hrest, -⟩ := id hs
  have hhead : (s.putTender t').tenders.issueHead t.check = some t' := by
    have := hs.head_iff.mpr rfl
    simpa only [State.putTender_tenders, TenderPool.issueHead, h.id] using issueHead_put h.check this
  have hfilter : ∀ p : Tender → Bool, p t' = false → (∀ u, u.id = t.id → p u = false) →
      (s.putTender t').tenders.pool.filter p = s.tenders.pool.filter p := by
    intro p h1 h2
    simpa only [State.putTender_tenders, h.id] using filter_put h1 h2
  have hleft : (((s.putTender t').tenders.issueList t.check).filter fun x => x.id != t'.id) = ready ++ rest := by
    have hsplit := hs.left s.tenders.closed
    rw [TenderPool.issueList_left] at hsplit
    rw [TenderPool.issueList, List.filter_filter, hfilter _ (by simp) (fun u hu => by simp [h.id, hu]), ← List.filter_filter, h.id]
    exact hsplit
  have hk : ready.length < (s.putTender t').tenders.pool.length := by
    have h1 : (s.tenders.issueList t.check).length ≤ s.tenders.pool.length := List.length_filter_le ..
    rw [hlist] at h1
    simp at h1 ⊢
    omega
  have hwithout : (s.putTender t').tenders.without (t' :: ready) = s.tenders.without (t :: ready) := by
    rw [TenderPool.without, TenderPool.without, hfilter _ (by simp) (fun u hu => by simp [h.id, hu])]
    simp only [List.all_cons, h.id]
  have hclosed : closedPosted s.run.clock s.tenders.closed (t' :: ready) = closedPosted s.run.clock s.tenders.closed (t :: ready) := by
    simp only [closedPosted, List.foldl_cons, h.id, h.check, h.share, h.slot]
  rw [State.postReady, postWithin_posts (hrest rfl) _ t' ready (s.putTender t') c hhead ht hleft hready hnodup hc hp hk
    (by rw [← hev] at hf; exact hf)]
  rw [State.posts, hwithout, ← hev, ← hclosed]
  rfl

theorem State.over_tenders (s : State) (checks : List Check) (radio : Radio) : (s.over checks radio).tenders = s.tenders := rfl

theorem State.over_clock (s : State) (checks : List Check) (radio : Radio) : (s.over checks radio).run.clock = s.run.clock := rfl

theorem State.over_checks (s : State) (checks : List Check) (radio : Radio) : (s.over checks radio).checks = checks := rfl

theorem Check.share_mapShare {c : Check} {n : Nat} {x : Share} {f : Share → Share} (h : c.share n = some x)
    (hf : ∀ y, (f y).number = y.number) : (c.mapShare n f).share n = some (f x) := by
  have hcomp : (fun y : Share => y.number == n) ∘ (fun y => if y.number = n then f y else y) = fun y => y.number == n := by
    funext y
    simp only [Function.comp]
    split <;> simp [hf]
  have hx : x.number = n := by simpa using List.find?_some h
  rw [Check.share, Check.mapShare, List.find?_map, hcomp]
  rw [Check.share] at h
  rw [h, Option.map_some, if_pos hx]

/-- The OUTCOME of an approval: APPROVED, or PARTIAL with what it leaves unpaid and open (R55, R67). -/
def approvalOutcome (t : Tender) (a : Nat) (code : Bytes) (openAmt : Nat) : OutcomeItem :=
  if a = t.requested then approvedOutcome (t.approve a code) .approved 0 0
  else approvedOutcome (t.approve a code) .partially (t.part - min a t.part) openAmt

/-- An approval taken: the over-approval raised, the rest of the hold released, the OUTCOME placed, and the check tested for posting
(R55). -/
theorem State.takeApproval_eq {s : State} {t : Tender} {approved : Nat} {code bytes : Bytes} {c : Check} {x : Share}
    (hmode : (s.slot t.slot).mode ≠ .routed .muted) (hc : s.check t.check = some c) (hx : c.share t.share = some x)
    (hf : (s.approvalRaised t approved bytes).line.places ≤ 56) :
    let a := min approved t.requested
    s.takeApproval t approved code bytes =
      (((s.approvalRaised t approved bytes).over (Machine.putCheck s.checks (c.release t.share (t.part - min a t.part)))
        { s.radio with slots := s.radio.slots.set t.slot ((s.slot t.slot).answered
            (approvalOutcome t a code (x.openAmt + (t.part - min a t.part)))) }).putTender (t.approve a code)).postReady t.check := by
  intro a
  obtain ⟨htenders, hradio, hstore, hclock, hchecks, -⟩ := State.approvalRaised_keeps s t approved bytes
  have hcheck : (s.approvalRaised t approved bytes).check t.check = some c := by rw [State.check, hchecks]; exact hc
  have hnum : c.number = t.check := findCheck_number hc
  have hopen : (((s.approvalRaised t approved bytes).putTender (t.approve a code)).releaseHold t.check t.share
      (t.part - (t.approve a code).ps)).check t.check = some (c.release t.share (t.part - min a t.part)) := by
    rw [State.releaseHold_eq (by exact hcheck)]
    exact hnum ▸ check_putCheck (c := c.release t.share (t.part - min a t.part)) (c' := c) (hnum ▸ hcheck)
  have hshare : (c.release t.share (t.part - min a t.part)).share t.share =
      some { x with held := x.held - (t.part - min a t.part), openAmt := x.openAmt + (t.part - min a t.part) } :=
    Check.share_mapShare hx fun _ => rfl
  rw [State.takeApproval]
  dsimp only
  rw [State.overApproval_eq hf, hopen, State.releaseHold_eq (by exact hcheck)]
  rw [Option.bind_some, hshare, State.placeOutcome_answered (s := s) _ (by exact hradio) hmode, ← hchecks]
  rfl

end Sys2Proof.Machine

open Sys2Proof Sys2Proof.Machine

/-- Settles O27: an approval of the head is put back READY, and the READY tenders then first in the issue list post. -/
theorem approvalPosts : Obligations.ApprovalPosts := by
  intro s tag tender outcome approved code reason t ready rest c x ht hs hl hcode ho hpos hf hw hcancel hsplit hnone hc hp hx hmode
    a ps t' released events counted raised e answered hfits
  obtain ⟨-, -, -, -, hlen, -⟩ := id hsplit
  have h3 : outcome ≠ 3 := by rintro rfl; rcases ho with h | h <;> exact absurd h (by decide)
  have hamt : approvedAmount outcome approved = approved.toNat := if_neg h3
  have hraised : counted.approvalRaised t approved.toNat
      (((HostCommand.authResult tender outcome approved code reason).frame tag).take 8) = raised := by
    rw [State.approvalRaised_take]
    rfl
  obtain ⟨htenders, -, hstore, hclock, -, hq⟩ := State.approvalRaised_keeps counted t approved.toNat
    (((HostCommand.authResult tender outcome approved code reason).frame tag).take 8)
  rw [hraised] at htenders hstore hclock hq
  refine exec_authResult ht hs hl hcode (ho.imp_right .inl) hf hw ?_
    (tenderStanding_left (reason := .posted) hnone (Nat.lt_of_lt_of_le hlen (by decide))) (hq.trans (List.prefix_append ..))
  rw [hamt, State.takeResult, if_neg (by simp [hcancel]), if_pos hpos]
  refine (State.takeApproval_eq (s := counted) hmode hc hx
    (by rw [hraised]; exact Nat.le_trans (Nat.le_add_right ..) hfits)).trans ?_
  have houtcome : approvalOutcome t a code (x.openAmt + (t.part - min a t.part)) =
      { kind := if a = t.part + t.tip then .approved else .partially
        tag := t.tag, tender := t.id, share := t.share, part := t.part, tip := t.tip, deferred := t.deferred, clamped := t.clamped
        ps := ps, pt := a - ps, code := if t.deferred then le 4 t.forward ++ [0, 0] else padded 6 0x20 code
        unpaid := t.part - ps
        openAmt := if a = t.part + t.tip then 0 else x.openAmt + (t.part - ps) } := by
    rw [approvalOutcome]
    by_cases hfull : a = t.part + t.tip
    · have hps : t.part - ps = 0 := by simp only [ps]; omega
      rw [if_pos (by exact hfull), if_pos hfull, if_pos hfull, hps]
      rfl
    · rw [if_neg (by exact hfull), if_neg hfull, if_neg hfull]
      rfl
  have hnum : c.number = t.check := findCheck_number hc
  have hat : findCheck (putCheck s.checks released) t.check = some released :=
    hnum ▸ findCheck_putCheck_same (c := released) (c' := c) (hnum ▸ hc)
  have hev : afterHead raised.store.settings (putCheck s.checks released) released (t' :: ready) rest = events := by
    rw [hstore, afterHead_putCheck _ _ _ _ (by rfl)]
    rfl
  have hlast : events.check.number = released.number := afterHead_number ..
  have hanswered : s.radio.slots.set t.slot ((s.slot t.slot).answered
      (approvalOutcome t a code (x.openAmt + (t.part - min a t.part)))) = answered := by
    rw [houtcome]
    rfl
  have hposts := State.putTender_posts (s := raised.over (putCheck s.checks released) { s.radio with slots := answered })
    (t := t) (t' := t')
    ⟨rfl, rfl, rfl, rfl⟩ rfl (by exact htenders ▸ hsplit) hat hp hev (.inr hfits)
  rw [State.over_tenders, State.over_clock, htenders, hclock, State.over_checks, putCheck_putCheck hlast.symm] at hposts
  rw [hraised]
  rw [← hanswered] at hposts ⊢
  exact hposts
end

section
/-! A tender declined as it is issued, with the uplink DOWN (R53, R79). -/

namespace Sys2Proof.Machine

open Sys2Proof

/-- A check with a tender just issued: parked behind the barrier, else TENDERING (R8). -/
def Check.withIssued (c : Check) : Check := { c with state := if c.parked.isSome then .barrier else .tendering }

theorem Check.hold_settledState (c : Check) (n p : Nat) :
    (c.hold n p).settledState = if c.parked.isSome then .barrier else .tendering := by
  have hp : (c.hold n p).parked = c.parked := rfl
  have h0 : 0 < (c.hold n p).inPool := Nat.succ_pos _
  rw [Check.settledState, hp, if_pos h0]

/-- A hold that is released whole leaves the shares as they were. -/
theorem Check.release_hold_shares {c : Check} {n p : Nat} (hp : ∀ y ∈ c.shares, y.number = n → p ≤ y.openAmt) :
    ((c.hold n p).release n p).shares = c.shares := by
  simp only [Check.hold, Check.release, Check.mapShare, List.map_map]
  refine (List.map_congr_left fun y hy => ?_).trans (List.map_id c.shares)
  by_cases hn : y.number = n
  · have := hp y hy hn
    rw [Function.comp, if_pos hn, if_pos (by exact hn)]
    show { y with held := y.held + p - p, openAmt := y.openAmt - p + p } = y
    rw [Nat.add_sub_cancel, Nat.sub_add_cancel this]
  · simp only [Function.comp, if_neg hn, id]

/-- The check of a tender just issued, its hold released and its count lowered again (R6, R9). -/
theorem Check.hold_release {c : Check} {n p : Nat} (hp : ∀ y ∈ c.shares, y.number = n → p ≤ y.openAmt) :
    { ({ c.hold n p with state := (c.hold n p).settledState } : Check).release n p with inPool := c.inPool } = c.withIssued := by
  show { c with shares := ((c.hold n p).release n p).shares, state := (c.hold n p).settledState } = c.withIssued
  rw [Check.release_hold_shares hp, Check.hold_settledState]
  rfl

/-- A state whose newest tender is to leave again: issued, its hold released, declined to its slot (R51, R53). -/
def State.issuedDeclined (s : State) (t : Tender) (c : Check) (reason : U8) : State :=
  { s with
    checks := Machine.putCheck s.checks
      (({ c.hold t.share t.part with state := (c.hold t.share t.part).settledState } : Check).release t.share t.part)
    tenders := { s.tenders with pool := s.tenders.pool ++ [t], lastId := t.id }
    radio := { s.radio with
      slots := s.radio.slots.set t.slot
        (({ s.slot t.slot with inFlight := some t.id } : SlotEntry).answered (declinedOutcome t reason false)) }
    journal := s.journal.append s.run.clock { tenderRecord .tenderDeclined t with flags := reason } }

theorem State.issuedDeclined_eq {s : State} {t : Tender} {c : Check} {reason : U8} (hc : s.check t.check = some c)
    (hmode : (s.slot t.slot).mode ≠ .routed .muted) (hhold : t.hold = t.part) :
    (((s.enterPool t c).releaseHold t.check t.share t.hold).appendRecord
      { tenderRecord .tenderDeclined t with flags := reason, hostReason := false }).placeOutcome t.slot
        (declinedOutcome t reason false) = s.issuedDeclined t c reason := by
  have hnum : c.number = t.check := findCheck_number hc
  rw [enterPool_eq hc, hhold]
  generalize hd : { c.hold t.share t.part with state := (c.hold t.share t.part).settledState } = held
  have hheld : held.number = t.check := by rw [← hd]; exact hnum
  have hat : findCheck (Machine.putCheck s.checks held) t.check = some held :=
    hheld ▸ findCheck_putCheck_same (c := held) (c' := c) (hheld ▸ hc)
  have hslot : (s.putSlot t.slot { s.slot t.slot with inFlight := some t.id }).slot t.slot =
      { s.slot t.slot with inFlight := some t.id } := State.slot_putSlot_same ..
  rw [State.releaseHold_eq (by exact hat), State.placeOutcome_answered (s := s.putSlot t.slot { s.slot t.slot with inFlight := some t.id })
    _ (by rfl) (by rw [hslot]; exact hmode), hslot, State.putSlot_radio, Vector.set_set]
  rw [State.issuedDeclined, hd, ← putCheck_putCheck (checks := s.checks) (c := held) (c' := held.release t.share t.part) rfl]
  rfl

/-- A tender with a fresh id, issued and declined at once: it leaves behind its record, its OUTCOME, its place in the closed list and
what its departure does (R53, R63). -/
theorem State.decline_issued {s : State} {t : Tender} {c : Check} {reason : U8} {events : CheckEvents} (hc : s.check t.check = some c)
    (hids : ∀ u ∈ s.tenders.pool, u.id ≠ t.id) (hmode : (s.slot t.slot).mode ≠ .routed .muted) (hhold : t.hold = t.part)
    (hp : ∀ y ∈ c.shares, y.number = t.share → t.part ≤ y.openAmt)
    (hev : departed s.store.settings s.checks c.withIssued = events) (hf : s.line.fits events.notices) :
    (s.enterPool t c).decline t reason false = { s with
      checks := Machine.putCheck s.checks events.check
      tenders := { s.tenders with
        closed := closedWith s.tenders.closed ⟨t.id, t.check, t.share, t.slot, .declined, s.run.clock⟩
        lastId := t.id }
      radio := { s.radio with
        slots := s.radio.slots.set t.slot { (s.slot t.slot).answered (declinedOutcome t reason false) with inFlight := none } }
      journal := s.journal.appendAll s.run.clock ({ tenderRecord .tenderDeclined t with flags := reason } :: events.records)
      line := { s.line with queue := s.line.queue ++ events.notices } } := by
  have hnum : c.number = t.check := findCheck_number hc
  have hpool : (s.tenders.pool ++ [t]).filter (fun u => u.id != t.id) = s.tenders.pool := by
    rw [List.filter_append, List.filter_eq_self.mpr fun u hu => bne_iff_ne.mpr (hids u hu)]
    simp
  -- the departure of the tender just issued
  generalize hrel : ({ c.hold t.share t.part with state := (c.hold t.share t.part).settledState } : Check).release t.share t.part = rel
  have hgone : { rel with inPool := rel.inPool - 1 } = c.withIssued := by
    rw [← hrel, ← Check.hold_release hp]
    rfl
  have hrelnum : rel.number = t.check := by rw [← hrel]; exact hnum
  have hat : (s.issuedDeclined t c reason).check t.check = some rel := by
    rw [State.issuedDeclined, hrel]
    exact hrelnum ▸ findCheck_putCheck_same (c := rel) (c' := c) (hrelnum ▸ hc)
  have hdep : departed (s.issuedDeclined t c reason).store.settings (s.issuedDeclined t c reason).checks
      { rel with inPool := rel.inPool - 1 } = events := by
    rw [hgone, ← hev, State.issuedDeclined, hrel]
    exact departed_putCheck _ _ (hrelnum.trans hnum.symm)
  have hleave := State.leavePool_departed (reason := .declined) hat (by rw [hdep]; exact hf)
  rw [hdep] at hleave
  have hslot : (s.issuedDeclined t c reason).slot t.slot =
      ({ s.slot t.slot with inFlight := some t.id } : SlotEntry).answered (declinedOutcome t reason false) :=
    State.slot_putSlot_same s t.slot _
  have hlast : events.check.number = rel.number := by
    rw [← hev, departed_number, hrelnum]
    exact hnum
  have hstays : ∀ u : State, u.tenders.pool = s.tenders.pool →
      (if (s.enterPool t c).tenders.issueHead t.check = some t then u.postReady t.check else u) = u := by
    intro u hu
    split
    · rename_i hhead
      refine postWithin_stops (fun v hv => ?_) _
      rw [enterPool_eq hc] at hhead
      rw [← TenderPool.issueHead_eq, TenderPool.issueHead, hu, Option.mem_def] at hv
      rw [TenderPool.issueHead, List.find?_append, hv, Option.some_or, Option.some.injEq] at hhead
      exact absurd (congrArg Tender.id hhead) (hids v (List.mem_of_find?_eq_some hv))
    · rfl
  rw [State.decline, State.endTender]
  dsimp only
  rw [State.issuedDeclined_eq hc hmode hhold, hleave, hstays _ hpool, hslot]
  simp only [State.withEvents, State.issuedDeclined, hrel, putCheck_putCheck hlast.symm, hpool, Vector.set_set]
  rfl

end Sys2Proof.Machine

open Sys2Proof Sys2Proof.Machine

/-- Settles O25: intake passes, a test of R79 fails, and the tender is declined as it is issued. -/
theorem presentDeclinedOffline : Obligations.PresentDeclinedOffline := by
  intro s i share part tipKind tipValue token method tag n c x m r hgood hquiet hm hmode hc hx hone hintake hdown hids p tip hr id e
    issued events hf
  have hnum : c.number = n := findCheck_number hc
  subst hnum
  obtain ⟨hok, -, -⟩ := intake_ok hmode hc hx hintake
  let pr : Presentment :=
    { share := share.toNat, part := part.toNat, tipKind := tipKind.toNat, tipValue := tipValue.toNat, token := token,
      method := m, tag := tag }
  have hpart : sharePart part.toNat x.openAmt = p := if_congr (BitVec.toNat_inj (y := 0#32)) rfl rfl
  let t := newTender s i pr c x
  have htip : t.part = p ∧ t.tip = tip.1 := by
    simp only [t, newTender, pr, hpart, tip, and_self]
  have hrefused : offlineRefusal s t = some r := by
    rw [offlineRefusal_spec, ← hr, Tender.requested, htip.1, htip.2]
    rfl
  have hple : p ≤ x.openAmt := by
    simp only [p]
    split
    · exact le_rfl
    · exact min_le_right ..
  show Host.Outcome.next (s.uplinkTurn i (.present share part tipKind tipValue token method tag)) = _
  rw [State.uplinkTurn_quiet _ hquiet hgood]
  have htaken : s.takePresent i pr = (s.enterPool t c).decline t r.code false := by
    simp only [State.takePresent, pr, hok, hdown, State.issueOffline]
    rw [hrefused]
  simp only [State.handleMessage, hm, State.handPresent, hmode]
  rw [htaken, State.decline_issued (s := s) (t := t) hc hids (by simp [t, newTender, hmode]) rfl
    (fun y hy hn => by rw [hone y hy hn, htip.1]; exact hple) (events := events) rfl hf]
  have hout : declinedOutcome t r.code false =
      { kind := .declined, tag := tag, tender := id, share := share.toNat, part := p, tip := tip.1, reason := r.code } := by
    rw [declinedOutcome, htip.1, htip.2]
    rfl
  have hrec : { tenderRecord .tenderDeclined t with flags := r.code } =
      { kind := .tenderDeclined, tender := id, check := c.number, share := share.toNat, slot := i.val, amount := p, tip := tip.1
        flags := r.code } := by
    rw [tenderRecord, htip.1, htip.2]
    rfl
  rw [hout, hrec]
  rfl
end

section
/-! The two ends of a forward append (R62, R81, R87). -/

namespace Sys2Proof.Machine

open Sys2Proof

/-- Testing forwarding leaves the store as it is. -/
theorem forwardWithin_store (k : Nat) (s : State) : (forwardWithin k s).store = s.store := by
  induction k generalizing s with
  | zero => rfl
  | succ k ih =>
    rw [forwardWithin]
    split
    · split
      · exact (ih _).trans (offer_reported _ _).store
      · rfl
    · rfl

/-! ### The append completes -/

/-- The store with the copy of a completed append in its room (R145). -/
def State.appendStored (s : State) (room : Fin 64) (content : Room) : State :=
  { s with store := { s.store with current := none, rooms := s.store.rooms.set room content } }

/-- A completed append: what Uplink Control does, then what the store serves (R81, R85, R145). -/
theorem appendComplete_serves {s u : State} {e : ForwardEntry} {next : Nat} {room : Fin 64} {content : Room} (hp : s.powered = true)
    (hw : s.store.current = some { request := .append e next, unit := .room room content })
    (hu : (s.appendStored room content).appendDone e.number = u) (hn : u.store.current = none) :
    ∃ t : State, exec .forwardAppendComplete s = .next t ∧ u.serves t := by
  refine ⟨u.pumpStore, ?_, State.pumpStore_serves hn⟩
  show execForwardAppendComplete s = _
  rw [← hu]
  simp only [execForwardAppendComplete, hp, hw]
  rfl

/-- The entry of a completed append is UNSENT, and DEFERRED APPROVED is written (R81). -/
def State.appendApproved (s : State) (f : ForwardEntry) : State :=
  { s with
    uplink := { s.uplink with queue := markEntry s.uplink.queue f.number .unsent }
    journal := s.journal.append s.run.clock (forwardRecord .deferredApproved f) }

theorem State.appendDone_found {s : State} {n : Nat} {f : ForwardEntry} (hf : s.uplink.find n = some f) :
    s.appendDone n = (match (s.appendApproved f).tenders.find f.tender with
      | some t => (s.appendApproved f).storedTender t
      | none => s.appendApproved f).forwardEntries := by
  have hn : f.number = n := by simpa using List.find?_some hf
  subst hn
  simp only [State.appendDone, hf]
  rfl

/-- A stored tender as it is answered: READY and deferred (R62). -/
def Tender.stored (t : Tender) : Tender := { t with state := .ready, ps := t.part, pt := t.tip, deferred := true }

/-- A tender put back behind the head of its issue list leaves that head. -/
theorem issueHead_put_behind {pool : List Tender} {t t' h : Tender} (hid : h.id ≠ t.id)
    (ht : pool.find? (fun u => u.id == t.id) = some t) (hh : pool.find? (fun u => u.check == t.check) = some h) :
    (pool.map fun u => if u.id = t.id then t' else u).find? (fun u => u.check == t.check) = some h := by
  induction pool with
  | nil => simp at hh
  | cons u pool ih =>
    have hu : u.id ≠ t.id := fun hu => by
      rw [List.find?_cons_of_pos (by simpa using hu), Option.some.injEq] at ht
      rw [ht, List.find?_cons_of_pos (by simp), Option.some.injEq] at hh
      exact hid (congrArg Tender.id hh).symm
    rw [List.find?_cons_of_neg (by simpa using hu)] at ht
    rw [List.map_cons, if_neg hu]
    by_cases hc : u.check = t.check
    · rwa [List.find?_cons_of_pos (by simpa using hc)] at hh ⊢
    · rw [List.find?_cons_of_neg (by simpa using hc)] at hh ⊢
      exact ih ht hh

/-- A stored tender answered, before the check is tested for posting (R62). -/
theorem State.storedTender_eq {s : State} {t : Tender} (hmode : (s.slot t.slot).mode ≠ .routed .muted) :
    s.storedTender t = ((s.over s.checks { s.radio with
      slots := s.radio.slots.set t.slot ((s.slot t.slot).answered (approvedOutcome t.stored .approved 0 0)) }).putTender
        t.stored).postReady t.check := by
  rw [State.storedTender]
  dsimp only
  rw [State.placeOutcome_answered (s := s) _ (by rfl) hmode]
  rfl

/-! ### The append fails -/

/-- The store after a failed append: no write in progress, and no room changed but the one it wrote to, which may be damaged (R145;
log 7). -/
theorem State.appendFails_eq (s : State) {request : StoreRequest} {unit : StoreUnit} (hunit : ∀ first copy, unit ≠ .settings first copy) :
    ∃ rooms : Vector Room 64,
      (rooms = s.store.rooms ∨ ∃ room content, unit = .room room content ∧ rooms = s.store.rooms.set room .damaged) ∧
      s.appendFails { request := request, unit := unit } =
        { s with store := { s.store with current := none, rooms := rooms }, freeCount := s.freeCount + 1 } := by
  rw [State.appendFails]
  split
  · exact ⟨s.store.rooms, .inl rfl, rfl⟩
  · cases unit with
    | settings first copy => exact absurd rfl (hunit first copy)
    | room room content => exact ⟨s.store.rooms.set room .damaged, .inr ⟨room, content, rfl, rfl⟩, rfl⟩
    | nothing => exact ⟨s.store.rooms, .inl rfl, rfl⟩

/-- A failed append: what Uplink Control does, STORE WRITE FAIL, then what the store serves (R81, R85, R145). -/
theorem appendFail_serves {s u : State} {e : ForwardEntry} {next : Nat} {unit : StoreUnit} (hp : s.powered = true)
    (hw : s.store.current = some { request := .append e next, unit := unit }) (hunit : ∀ first copy, unit ≠ .settings first copy)
    (hu : ∀ rooms : Vector Room 64,
      State.appendLost { s with store := { s.store with current := none, rooms := rooms }, freeCount := s.freeCount + 1 } e.number =
        { u with store := { s.store with current := none, rooms := rooms }, freeCount := s.freeCount + 1 })
    (hstore : u.store.settings = s.store.settings) (hadm : u.admits .storeWriteFail) :
    ∃ (rooms : Vector Room 64) (t : State), exec .forwardAppendFail s = .next t ∧
      (rooms = s.store.rooms ∨ ∃ room content, unit = .room room content ∧ rooms = s.store.rooms.set room .damaged) ∧
      State.serves
        (State.faulted { u with store := { s.store with current := none, rooms := rooms }, freeCount := s.freeCount + 1 }
          .storeWriteFail .store []) t := by
  obtain ⟨rooms, hrooms, hfails⟩ := s.appendFails_eq (request := .append e next) hunit
  have hadm' : State.admits { u with store := { s.store with current := none, rooms := rooms }, freeCount := s.freeCount + 1 }
      .storeWriteFail := by
    rcases hadm with h | h | h
    · exact .inl h
    · exact .inr (.inl h)
    · exact .inr (.inr (hstore ▸ h))
  refine ⟨rooms, _, ?_, hrooms, State.pumpStore_serves rfl⟩
  show execForwardAppendFail s = _
  simp only [execForwardAppendFail, hp, hw]
  rw [hfails, hu, State.storeFault, State.raise_faulted _ _ hadm']

/-- What a completed append leaves where its STORING tender waits in the pool: the tender answered, then forwarding tested (R62, R81). -/
theorem State.appendDone_tender {s : State} {n : Nat} {f : ForwardEntry} {t : Tender} (hf : s.uplink.find n = some f)
    (ht : s.tenders.find f.tender = some t) (hmode : (s.slot t.slot).mode ≠ .routed .muted) :
    s.appendDone n = (State.postReady (State.putTender ((s.appendApproved f).over s.checks { s.radio with
      slots := s.radio.slots.set t.slot ((s.slot t.slot).answered (approvedOutcome t.stored .approved 0 0)) }) t.stored)
        t.check).forwardEntries := by
  rw [State.appendDone_found hf]
  have ht' : (s.appendApproved f).tenders.find f.tender = some t := ht
  simp only [ht']
  rw [State.storedTender_eq (s := s.appendApproved f) hmode]
  rfl

end Sys2Proof.Machine

open Sys2Proof Sys2Proof.Machine

/-- Settles O37: the end of the write reaches Uplink Control, then the store serves its list. -/
theorem appendEnds : Obligations.AppendEnds := by
  intro s e next unit hp hw hunit stored unsent approved removed completes fails
  have hdone : ∀ {u : State} {room : Fin 64} {content : Room}, unit = .room room content →
      (s.appendStored room content).appendDone e.number = u → u.store.current = none → completes u := by
    rintro u room content rfl hu hn
    exact appendComplete_serves hp hw hu hn
  have hfail : ∀ {u : State}, (∀ rooms : Vector Room 64,
      State.appendLost { s with store := { s.store with current := none, rooms := rooms }, freeCount := s.freeCount + 1 } e.number =
        { u with store := { s.store with current := none, rooms := rooms }, freeCount := s.freeCount + 1 }) →
      u.store.settings = s.store.settings → fails u :=
    fun hu hstore hadm => appendFail_serves hp hw hunit hu hstore hadm
  have hforwards : ∀ u : State, u.store.current = none → u.forwardEntries.store.current = none :=
    fun u hu => (congrArg SettingStore.current (forwardWithin_store _ u)).trans hu
  refine ⟨?_, ?_, ?_, ?_⟩
  · rintro rfl
    show execForwardAppendComplete s = _
    simp only [execForwardAppendComplete, hp, hw]
  · intro hnone
    refine ⟨fun room content hr => hdone hr ?_ rfl, hfail (fun rooms => ?_) rfl⟩
    · have hfind : (s.appendStored room content).uplink.find e.number = none := hnone
      simp only [State.appendDone, hfind]
      rfl
    · have hfind : Uplink.find s.uplink e.number = none := hnone
      simp only [State.appendLost, hfind]
  · intro f hf hnone
    have hn : f.number = e.number := by simpa using List.find?_some hf
    refine ⟨fun room content hr => hdone hr ?_ (hforwards _ rfl), hfail (fun rooms => ?_) rfl⟩
    · have ht : ((s.appendStored room content).appendApproved f).tenders.find f.tender = none := hnone
      rw [State.appendDone_found (by exact hf)]
      simp only [ht]
      simp only [State.appendApproved, hn]
      rfl
    · have hfind : Uplink.find s.uplink e.number = some f := hf
      have ht : TenderPool.find s.tenders f.tender = none := hnone
      simp only [State.appendLost, hfind, State.setUplink, ht]
      rfl
  · intro f t hf ht hmode t' entry answered
    have hn : f.number = e.number := by simpa using List.find?_some hf
    have hid : t.id = f.tender := by simpa using List.find?_some ht
    have hcomplete := fun room content => State.appendDone_tender (s := s.appendStored room content) hf ht hmode
    refine ⟨?_, ?_, ?_⟩
    · intro h room content hr hh hbehind hstate
      refine hdone hr ?_ (hforwards _ rfl)
      rw [hcomplete, State.postReady, postWithin_stops]
      · simp only [State.appendApproved, hn]
        rfl
      · intro u hu
        have hstill := issueHead_put_behind (t' := t.stored) hbehind (by rw [hid]; exact ht) hh
        rw [← TenderPool.issueHead_eq] at hu
        obtain rfl : h = u := Option.some.inj (hstill.symm.trans hu)
        exact hstate
    · intro ready rest c room content hr hs hc hin events hfits
      refine hdone hr ?_ (hforwards _ rfl)
      have hposts := State.putTender_posts (t := t) (t' := t.stored) (events := events)
        (s := ((s.appendStored room content).appendApproved f).over s.checks { s.radio with slots := answered })
        ⟨rfl, rfl, rfl, rfl⟩ rfl hs hc hin rfl (.inr hfits)
      rw [hcomplete]
      refine congrArg State.forwardEntries (hposts.trans ?_)
      simp only [State.appendApproved, hn]
      rfl
    · intro before ready rest c hs hc hin released events declined hfits
      refine hfail (fun rooms => ?_) rfl
      have hfind : Uplink.find s.uplink e.number = some f := hf
      have ht' : TenderPool.find s.tenders f.tender = some t := ht
      simp only [State.appendLost, hfind, State.setUplink, ht']
      rw [State.decline_ends (by exact hs) (by exact hc) hin (by exact hmode) rfl (.inr (by exact hfits)), State.reported_endedBy rfl]
      rfl
end

section
/-! Seat sets and split plans: the tests of R12 as the model runs them and as they are stated; OPEN CHECK (R10, R11). -/

namespace Sys2Proof.Machine

open Sys2Proof

theorem mem_seatList {v : U32} {seat : Nat} : seat ∈ seatList v ↔ ∃ b, v.getLsbD b = true ∧ b + 1 = seat := by
  simp only [seatList, List.mem_map, List.mem_filter, List.mem_range]
  exact exists_congr fun b => and_congr_left' ⟨And.right, fun h => ⟨BitVec.lt_of_getLsbD h, h⟩⟩

theorem seatsWithin_iff {v : U32} {n : Nat} : seatsWithin v n = true ↔ ¬∃ b, v.getLsbD b = true ∧ n ≤ b := by
  simp only [seatsWithin, List.all_eq_true, mem_seatList, decide_eq_true_eq, forall_exists_index, and_imp, not_exists, not_and,
    Nat.not_le]
  exact ⟨fun h b hb => h _ b hb rfl, by rintro h _ b hb rfl; exact h b hb⟩

/-- The test of R12 against a check is `Valid`. -/
theorem SplitPlan.fits_iff {plan : SplitPlan} {covers d : Nat} : plan.fits covers d = true ↔ plan.Valid covers d := by
  cases plan with
  | whole => simp [SplitPlan.fits, SplitPlan.Valid]
  | even k => simp [SplitPlan.fits, SplitPlan.Valid]
  | bySeat groups =>
    simp only [SplitPlan.fits, SplitPlan.Valid, Bool.and_eq_true, decide_eq_true_eq, List.all_eq_true, bne_iff_ne, seatsWithin_iff,
      beq_iff_eq, List.mem_range, and_assoc]
  | byAmount k fixed =>
    simp only [SplitPlan.fits, SplitPlan.Valid, Bool.and_eq_true, decide_eq_true_eq, List.all_eq_true]
    exact ⟨fun ⟨⟨h1, h2, h3⟩, h4⟩ => ⟨h1, h2, h4, h3⟩, fun ⟨h1, h2, h4, h3⟩ => ⟨⟨h1, h2, h3⟩, h4⟩⟩

/-- The tests of R12 that need no check, as bytes of a command fail them (R176; log 12). -/
def malformedPlan (b : PlanBytes) : Prop :=
  3 < b.form.toNat ∨ (b.form ≠ 0 ∧ (b.k = 0 ∨ 24 < b.k.toNat)) ∨
    (b.form = 2 ∧ ∃ g ∈ b.items, g = 0 ∨ ∃ seat, g.getLsbD seat = true ∧ 24 ≤ seat) ∨
    (b.form = 3 ∧ ∃ v ∈ b.items, 99999999 < v.toNat)

theorem U8.toNat_lt_one {x : U8} : x.toNat < 1 ↔ x = 0 :=
  ⟨fun h => BitVec.eq_of_toNat_eq (by simpa using h), by rintro rfl; decide⟩

theorem planOfBytes_none {b : PlanBytes} : planOfBytes b = none ↔ malformedPlan b := by
  have hform (n : U8) : b.form = n ↔ b.form.toNat = n.toNat := BitVec.toNat_inj.symm
  have h0 : b.form = 0 ↔ b.form.toNat = 0 := hform 0
  have h1 : b.form = 1 ↔ b.form.toNat = 1 := hform 1
  have h2 : b.form = 2 ↔ b.form.toNat = 2 := hform 2
  have h3 : b.form = 3 ↔ b.form.toNat = 3 := hform 3
  rw [planOfBytes, malformedPlan]
  simp only [h0, h1, h2, h3, U8.toNat_lt_one, ne_eq]
  by_cases hf0 : b.form.toNat = 0
  · simp [hf0]
  by_cases hk : b.k = 0#8 ∨ 24 < b.k.toNat
  · simp [hf0, hk]
  by_cases hf1 : b.form.toNat = 1
  · simp [hf1, hk]
  by_cases hf2 : b.form.toNat = 2
  · simp [hf2, hk, seatsWithin_iff, or_iff_not_imp_left]
  by_cases hf3 : b.form.toNat = 3
  · simp [hf3, hk]
    exact Iff.rfl
  · have : 3 < b.form.toNat := by omega
    simp [hf0, hf1, hf2, hf3, hk, this]

theorem planOfOption_none {plan : Option PlanBytes} : planOfOption plan = none ↔ ∃ b, plan = some b ∧ malformedPlan b := by
  cases plan with
  | none => simp [planOfOption]
  | some b => simp [planOfOption, planOfBytes_none]

theorem ServiceMode.ofCode_none {b : U8} : ServiceMode.ofCode b = none ↔ 2 < b.toNat := by
  have hb (n : U8) : b = n ↔ b.toNat = n.toNat := BitVec.toNat_inj.symm
  have h0 : b = 0 ↔ b.toNat = 0 := hb 0
  have h1 : b = 1 ↔ b.toNat = 1 := hb 1
  have h2 : b = 2 ↔ b.toNat = 2 := hb 2
  simp only [ServiceMode.ofCode, h0, h1, h2]
  split_ifs <;> simp <;> omega

/-! ### OPEN CHECK -/

/-- A fixed range of OPEN CHECK that its parameters are outside of (R10 test 2). -/
abbrev openOutside (check table : U16) (covers mode : U8) : Prop :=
  check = 0 ∨ table = 0 ∨ 999 < table.toNat ∨ covers = 0 ∨ 24 < covers.toNat ∨ 2 < mode.toNat

section
variable {s : State} {check table : U16} {covers mode : U8} {plan : Option PlanBytes} (hs : s.run.state ≠ .halted)
include hs

theorem openCheck_range (h : openOutside check table covers mode ∨ planOfOption plan = none) :
    openCheck check table covers mode plan s = s.refuse .range := by
  have hh : ¬s.halted = true := by simpa [State.halted] using hs
  rw [openCheck, if_neg hh]
  split
  · rfl
  · rename_i hin
    have hnone : ServiceMode.ofCode mode = none ∨ planOfOption plan = none := by
      rw [ServiceMode.ofCode_none]
      tauto
    rcases hnone with h | h
    · rw [h]
    · rw [h]
      cases ServiceMode.ofCode mode <;> rfl

/-- OPEN CHECK with every parameter in its fixed range: the tests that need the table, in order (R10). -/
theorem openCheck_inside {m : ServiceMode} {p : SplitPlan} (h : ¬openOutside check table covers mode)
    (hm : ServiceMode.ofCode mode = some m) (hp : planOfOption plan = some p) :
    openCheck check table covers mode plan s =
      if (s.check check.toNat).isSome then s.refuse .inUse
      else if !p.fits covers.toNat 0 then s.refuse .range
      else if 128 ≤ s.checks.length then s.refuse .tableFull
      else
        let c := newCheck s.store.settings check.toNat table.toNat covers.toNat m p
        (((s.setChecks (s.checks ++ [c])).settleCheck c.number).appendRecord
          { kind := .checkOpened, check := c.number, share := c.covers, amount := c.table, flags := m.code },
         .accepted (le 4 c.shares.length)) := by
  have hh : ¬s.halted = true := by simpa [State.halted] using hs
  have hin : ¬(check = 0 ∨ table = 0 ∨ 999 < table.toNat ∨ covers = 0 ∨ 24 < covers.toNat) := by tauto
  simp only [openCheck, if_neg hh, if_neg hin, hm, hp, Config.maxChecks]
  rfl

end

theorem findCheck_append_new {checks : List Check} {c : Check} (h : findCheck checks c.number = none) :
    findCheck (checks ++ [c]) c.number = some c := by
  rw [findCheck, List.find?_append]
  rw [findCheck] at h
  simp [h]

theorem putCheck_append_new {checks : List Check} {c : Check} (h : findCheck checks c.number = none) :
    putCheck (checks ++ [c]) c = checks ++ [c] := by
  have hne : ∀ x ∈ checks, x.number ≠ c.number := by simpa [findCheck] using h
  rw [putCheck, List.map_congr_left (g := id), List.map_id]
  intro x hx
  rcases List.mem_append.mp hx with hx | hx
  · exact if_neg (hne x hx)
  · obtain rfl := List.mem_singleton.mp hx
    exact if_pos rfl

/-- Settling a check just opened changes nothing (R8, R11). -/
theorem State.settleCheck_new {s : State} {c : Check} (hnew : findCheck s.checks c.number = none) (hstate : c.state = .opened)
    (hsettled : c.settledState = .opened) :
    (s.setChecks (s.checks ++ [c])).settleCheck c.number = { s with checks := s.checks ++ [c] } := by
  have hc : (s.setChecks (s.checks ++ [c])).check c.number = some c := findCheck_append_new hnew
  have hsame : ({ c with state := c.settledState } : Check) = c := by rw [hsettled, ← hstate]
  rw [settleCheck_quiet hc (by rw [hsettled]; simp), hsame]
  exact congrArg (fun checks => { s with checks := checks }) (putCheck_append_new hnew)

end Sys2Proof.Machine

open Sys2Proof Sys2Proof.Machine

/-- Settles O14: the ranges of the parameters, then the tests that need the table, then the new record. -/
theorem openCheckOpens : Obligations.OpenCheckOpens := by
  intro s tag check table covers mode plan ht hs hw i refused outside malformed
  have hrefused : ∀ {r : Reason}, openCheck check table covers mode plan s.owe = s.owe.refuse r → refused r := fun h =>
    exec_answered (.openCheck check table covers mode plan) (openCheck check table covers mode plan) rfl ht hw rfl rfl h
  have hmalformed : planOfOption plan = none ↔ malformed := planOfOption_none
  refine ⟨fun h => hrefused (openCheck_range (by exact hs) (h.imp_right hmalformed.mpr)), fun h => ?_, fun p hin hp => ?_⟩
  · exact Option.ne_none_iff_exists'.mp fun hn => h (hmalformed.mp hn)
  · obtain ⟨m, hm⟩ : ∃ m, ServiceMode.ofCode mode = some m :=
      Option.ne_none_iff_exists'.mp fun hn => hin (by have := ServiceMode.ofCode_none.mp hn; tauto)
    have hopen := openCheck_inside (s := s.owe) hs hin hm hp
    have hfits : p.fits covers.toNat 0 = true ↔ p.Valid covers.toNat 0 := SplitPlan.fits_iff
    refine ⟨fun hc => hrefused ?_, fun hc hv => hrefused ?_, fun hc hv hl => hrefused ?_, fun m' hm' hc hv hl => ?_⟩
    · rw [hopen, if_pos (by exact hc)]
    · rw [hopen, if_neg (by simp [hc]), if_pos (by simpa only [Bool.not_eq_true', ← Bool.not_eq_true, hfits] using hv)]
    · rw [hopen, if_neg (by simp [hc]), if_neg (by simpa [hfits] using hv), if_pos (by exact hl)]
    · obtain rfl : m = m' := Option.some.inj (hm.symm.trans hm')
      rw [exec_taken (c := .openCheck check table covers mode plan) rfl ht hw rfl]
      refine congrArg _ (State.answer_quiet s ?_ le_rfl)
      rw [hopen, if_neg (by simp [hc]), if_neg (by simpa [hfits] using hv), if_neg (by exact Nat.not_le.mpr hl)]
      dsimp only
      rw [State.settleCheck_new (by exact hc) rfl rfl]
      rfl
end

section
/-! Freeing a check record: CLOSE CHECK and VOID CHECK (R14 to R16, R109). -/

namespace Sys2Proof.Machine

open Sys2Proof

/-- A check number whose record is freed is in use no more (R16). -/
theorem findCheck_freed (checks : List Check) (n : Nat) : findCheck (checks.filter fun c => c.number != n) n = none := by
  rw [findCheck, List.find?_eq_none]
  intro c hc
  simpa using (List.mem_filter.mp hc).2

/-- A fill record after a check is freed: a running fill toward it has its target freed, and nothing else of it changes (R109). -/
theorem FillRecord.freed_eq (f : FillRecord) (n : Nat) :
    f.freed n = { f with targetFreed := f.targetFreed || (f.running && f.mode == .bound n) } := by
  rw [FillRecord.freed]
  by_cases hf : f.state ≠ .none ∧ f.mode = .bound n
  · simp [FillRecord.running, hf.1, hf.2]
  · have : (f.running && f.mode == .bound n) = false := by
      simpa [FillRecord.running] using hf
    rw [if_neg hf, this, Bool.or_false]

theorem State.freeCheck_slot (s : State) (n : Nat) (i : Slot) :
    (s.freeCheck n).slot i = (s.slot i).freed (s.checks.filter fun c => c.number != n) n :=
  Radio.mapSlots_get ..

section
variable {e : SlotEntry} {checks : List Check} {n : Nat}

/-- The three cases of a slot entry when check n is freed (R16). -/
theorem SlotEntry.freed_bound (h : e.mode = .routed (.bound n)) :
    e.freed checks n = { e with
      mode := .routed .idle
      display := some (e.displayNumber, .text textNotAssigned 0 0), nextItem := itemAfter e.displayNumber } := by
  rw [SlotEntry.freed, if_pos h]
  rfl

theorem SlotEntry.freed_probe (h : e.mode = .probe (.bound n)) :
    e.freed checks n = { e with
      mode := .probe .idle
      display := some (e.displayNumber, .text textNotAssigned 0 0), nextItem := itemAfter e.displayNumber } := by
  rw [SlotEntry.freed, if_neg (by simp [h]), if_pos h]
  rfl

theorem SlotEntry.freed_other (h : e.mode ≠ .routed (.bound n)) (hp : e.mode ≠ .probe (.bound n)) : e.freed checks n = e := by
  rw [SlotEntry.freed, if_neg h, if_neg hp]

end

/-- CLOSE CHECK of a check in use: its tests in order, then the record is freed (R14). -/
theorem closeCheck_found {s : State} {n : U16} {c : Check} (hs : s.run.state ≠ .halted) (hn : n ≠ 0) (hc : s.check n.toNat = some c) :
    closeCheck n s =
      if 0 < c.inPool then s.refuse .busy
      else if c.state = .settled ∨ (c.state = .opened ∧ c.totals.d = 0) then
        ((s.freeCheck n.toNat).appendRecord
          { kind := .checkClosed, check := n.toNat, amount := c.totals.d, receipt := c.nextReceipt - 1 }, .accepted [])
      else s.refuse .state := by
  have hh : ¬s.halted = true := by simpa [State.halted] using hs
  rw [closeCheck, if_neg hh, if_neg hn]
  simp only [hc, findCheck_number hc]

/-- VOID CHECK of a check in use: its tests in order, then the record is freed (R15). -/
theorem voidCheck_found {s : State} {n : U16} {c : Check} (hs : s.run.state ≠ .halted) (hn : n ≠ 0) (hc : s.check n.toNat = some c) :
    voidCheck n s =
      if 0 < c.inPool then s.refuse .busy
      else if c.begun = true then s.refuse .paidLock
      else
        ((s.freeCheck n.toNat).appendRecord { kind := .checkVoided, check := n.toNat, amount := c.totals.d }, .accepted []) := by
  have hh : ¬s.halted = true := by simpa [State.halted] using hs
  rw [voidCheck, if_neg hh, if_neg hn]
  simp only [hc, findCheck_number hc]

end Sys2Proof.Machine

open Sys2Proof Sys2Proof.Machine

/-- Settles O17: the tests of each command in order, and what freeing a record leaves. -/
theorem closeAndVoidFree : Obligations.CloseAndVoidFree := by
  intro s tag n ht hs closeRefused voidRefused
  have hclose : ∀ {r : Reason}, closeCheck n s.owe = s.owe.refuse r → closeRefused r := fun h =>
    exec_answered (.closeCheck n) (closeCheck n) rfl ht rfl rfl rfl h
  have hvoid : ∀ {r : Reason}, voidCheck n s.owe = s.owe.refuse r → voidRefused r := fun h =>
    exec_answered (.voidCheck n) (voidCheck n) rfl ht rfl rfl rfl h
  have hh : ¬s.owe.halted = true := by simpa [State.halted] using hs
  refine ⟨fun hn => ⟨hclose ?_, hvoid ?_⟩, fun hn hc => ⟨hclose ?_, hvoid ?_⟩, ?_⟩
  · rw [closeCheck, if_neg hh, if_pos hn]
  · rw [voidCheck, if_neg hh, if_pos hn]
  · have hc' : s.owe.check n.toNat = none := hc
    rw [closeCheck, if_neg hh, if_neg hn, hc']
  · have hc' : s.owe.check n.toNat = none := hc
    rw [voidCheck, if_neg hh, if_neg hn, hc']
  · intro c hn hc closes freed
    have hcl := closeCheck_found (s := s.owe) hs hn hc
    have hvo := voidCheck_found (s := s.owe) hs hn hc
    have hfreed : ∀ t : State, t.checks = (s.freeCheck n.toNat).checks → t.radio = (s.freeCheck n.toNat).radio → freed t := by
      intro t hchecks hradio
      have hslot : ∀ i, t.slot i = (s.slot i).freed (s.checks.filter fun c => c.number != n.toNat) n.toNat := by
        intro i
        rw [← State.freeCheck_slot, State.slot, State.slot, hradio]
      have hfill : t.radio.fill = s.radio.fill.freed n.toNat := congrArg Radio.fill hradio
      refine ⟨hchecks, ?_, fun i => ?_, ?_, ?_⟩
      · rw [State.check, hchecks]
        exact findCheck_freed ..
      · intro e shown
        refine ⟨fun h => ?_, fun h => ?_, fun h hp => ?_⟩
        · rw [hslot, SlotEntry.freed_bound h]
        · rw [hslot, SlotEntry.freed_probe h]
        · rw [hslot, SlotEntry.freed_other h hp]
      · rw [hfill, FillRecord.freed_eq]
      · rw [hradio]
        simp only [State.freeCheck, State.setRadio, FillRecord.freed_eq]
        rfl
    refine ⟨fun hp => ⟨hclose ?_, hvoid ?_⟩, fun hp hcs => hclose ?_, fun hp hb => hvoid ?_, fun hp hcs => ?_, fun hp hb => ?_⟩
    · rw [hcl, if_pos hp]
    · rw [hvo, if_pos hp]
    · rw [hcl, if_neg (by omega), if_neg hcs]
    · rw [hvo, if_neg (by omega), if_pos hb]
    · rw [if_neg (by omega), if_pos hcs] at hcl
      rw [exec_taken (c := .closeCheck n) rfl ht rfl rfl]
      refine ⟨_, congrArg _ (State.answer_quiet s (t := (s.freeCheck n.toNat).appendRecord _) hcl le_rfl), hfreed _ rfl rfl, rfl,
        rfl, rfl⟩
    · rw [if_neg (by omega), if_neg (by simp [hb])] at hvo
      rw [exec_taken (c := .voidCheck n) rfl ht rfl rfl]
      refine ⟨_, congrArg _ (State.answer_quiet s (t := (s.freeCheck n.toNat).appendRecord _) hvo le_rfl), hfreed _ rfl rfl, rfl,
        rfl, rfl⟩
end

section
/-! The check changes as they are taken: refused, applied at once, or parked (R17, R18). -/

namespace Sys2Proof.Machine

open Sys2Proof

/-- The command reaches an owner that decides it by `d` while the run state is not HALTED. -/
def decidedBy (i : Instr) (kind tag : U8) (d : State → State × Reply) : Prop :=
  ∃ (c : HostCommand) (owner : State → State × Reply), hostRowOf i = some (tag, c) ∧ c.wf = true ∧ c.badCode = false ∧ c.kind = kind ∧
    (∀ (bytes : Bytes) (s : State), runHost bytes tag c s = s.answer c.kind tag owner) ∧
    ∀ s : State, s.run.state ≠ .halted → owner s = d s

theorem decidedBy.exec_answer {i : Instr} {kind tag : U8} {d : State → State × Reply} (h : decidedBy i kind tag d) {s : State}
    (ht : s.takes tag) (hs : s.run.state ≠ .halted) : exec i s = .next (s.answer kind tag d) := by
  obtain ⟨c, owner, hi, hw, hb, rfl, hr, ho⟩ := h
  rw [exec_taken hi ht hw hb, hr, State.answer, State.answer, ho s.owe hs]

theorem decidedBy.exec_refused {i : Instr} {kind tag : U8} {d : State → State × Reply} (h : decidedBy i kind tag d) {s : State}
    {r : Reason} (ht : s.takes tag) (hs : s.run.state ≠ .halted) (hr : d s.owe = s.owe.refuse r) :
    exec i s = .next (s.replied kind tag (.refused r)) := by
  rw [h.exec_answer ht hs, State.answer_refuse hr]

/-- A check change whose parameters are in their fixed ranges is taken by R17. -/
theorem changeAsked_decided {i : Instr} {kind tag : U8} {n : U16} {ch : Change} (h : changeAsked i = some (kind, tag, n, ch)) :
    decidedBy i kind tag (takeChange n.toNat tag ch) := by
  have hh : ∀ {s : State}, s.run.state ≠ .halted → ¬s.halted = true := fun hs => by simpa [State.halted] using hs
  cases i with
  | addItem tag check price quantity taxClass seats =>
    simp only [changeAsked, Option.ite_none_right_eq_some, Option.some.injEq, Prod.mk.injEq] at h
    obtain ⟨⟨hc, hp, hq1, hq2, ht, hw⟩, rfl, rfl, rfl, rfl⟩ := h
    refine ⟨_, _, rfl, rfl, rfl, rfl, fun _ _ => rfl, fun s hs => ?_⟩
    rw [addItem, if_neg (hh hs), if_neg]
    rintro (h | h | rfl | h | h | h)
    · exact hc h
    · omega
    · exact absurd hq1 (by decide)
    · omega
    · omega
    · simp [hw] at h
  | voidItem tag check line =>
    simp only [changeAsked, Option.ite_none_right_eq_some, Option.some.injEq, Prod.mk.injEq] at h
    obtain ⟨⟨hc, h1, h2⟩, rfl, rfl, rfl, rfl⟩ := h
    refine ⟨_, _, rfl, rfl, rfl, rfl, fun _ _ => rfl, fun s hs => ?_⟩
    rw [voidItem, if_neg (hh hs), if_neg]
    rintro (h | rfl | h)
    · exact hc h
    · exact absurd h1 (by decide)
    · omega
  | setSplit tag check plan =>
    simp only [changeAsked, Option.ite_none_right_eq_some, Option.map_eq_some_iff, Prod.mk.injEq] at h
    obtain ⟨⟨hc, hw⟩, p, hp, rfl, rfl, rfl, rfl⟩ := h
    refine ⟨_, _, rfl, hw, rfl, rfl, fun _ _ => rfl, fun s hs => ?_⟩
    rw [setSplit, if_neg (hh hs), if_neg hc, hp]
  | setCovers tag check covers =>
    simp only [changeAsked, Option.ite_none_right_eq_some, Option.some.injEq, Prod.mk.injEq] at h
    obtain ⟨⟨hc, h1, h2⟩, rfl, rfl, rfl, rfl⟩ := h
    refine ⟨_, _, rfl, rfl, rfl, rfl, fun _ _ => rfl, fun s hs => ?_⟩
    rw [setCovers, if_neg (hh hs), if_neg]
    rintro (h | rfl | h)
    · exact hc h
    · exact absurd h1 (by decide)
    · omega
  | _ => cases h

/-- A check change with a parameter outside its fixed range is refused RANGE (R10 test 2). -/
theorem changeAsked_none_decided {i : Instr} {kind tag : U8} (hi : checkCommand i = some (kind, tag)) (h2 : 2 ≤ kind.toNat)
    (h5 : kind.toNat ≤ 5) (h : changeAsked i = none) : decidedBy i kind tag (State.refuse · .range) := by
  have hh : ∀ {s : State}, s.run.state ≠ .halted → ¬s.halted = true := fun hs => by simpa [State.halted] using hs
  have hpos : ∀ {x : U8}, ¬x = 0 → 1 ≤ x.toNat := U8.toNat_pos
  cases i with
  | addItem tag check price quantity taxClass seats =>
    cases hi
    simp only [changeAsked, ite_eq_right_iff, reduceCtorEq, imp_false] at h
    refine ⟨_, _, rfl, rfl, rfl, rfl, fun _ _ => rfl, fun s hs => ?_⟩
    rw [addItem, if_neg (hh hs), if_pos]
    by_contra hin
    simp only [not_or, Nat.not_lt, Bool.not_eq_true', Bool.not_eq_false] at hin
    obtain ⟨hc, hp, hq0, hq, ht, hw⟩ := hin
    exact h ⟨hc, hp, hpos hq0, hq, ht, hw⟩
  | voidItem tag check line =>
    cases hi
    simp only [changeAsked, ite_eq_right_iff, reduceCtorEq, imp_false] at h
    refine ⟨_, _, rfl, rfl, rfl, rfl, fun _ _ => rfl, fun s hs => ?_⟩
    rw [voidItem, if_neg (hh hs), if_pos]
    by_contra hin
    simp only [not_or, Nat.not_lt] at hin
    obtain ⟨hc, hl0, hl⟩ := hin
    exact h ⟨hc, hpos hl0, hl⟩
  | setSplit tag check plan =>
    simp only [checkCommand, Option.ite_none_right_eq_some, Option.some.injEq, Prod.mk.injEq] at hi
    obtain ⟨hw, rfl, rfl⟩ := hi
    refine ⟨_, _, rfl, hw, rfl, rfl, fun _ _ => rfl, fun s hs => ?_⟩
    rw [setSplit, if_neg (hh hs)]
    split
    · rfl
    · rename_i hc
      rw [changeAsked, if_pos ⟨hc, hw⟩, Option.map_eq_none_iff] at h
      rw [h]
  | setCovers tag check covers =>
    cases hi
    simp only [changeAsked, ite_eq_right_iff, reduceCtorEq, imp_false] at h
    refine ⟨_, _, rfl, rfl, rfl, rfl, fun _ _ => rfl, fun s hs => ?_⟩
    rw [setCovers, if_neg (hh hs), if_pos]
    by_contra hin
    simp only [not_or, Nat.not_lt] at hin
    obtain ⟨hc, hl0, hl⟩ := hin
    exact h ⟨hc, hpos hl0, hl⟩
  | openCheck =>
    simp only [checkCommand, Option.ite_none_right_eq_some, Option.some.injEq, Prod.mk.injEq] at hi
    obtain ⟨-, rfl, -⟩ := hi
    exact absurd h2 (by decide)
  | checkQuery =>
    simp only [checkCommand, Option.ite_none_right_eq_some, Option.some.injEq, Prod.mk.injEq] at hi
    obtain ⟨-, rfl, -⟩ := hi
    exact absurd h5 (by decide)
  | closeCheck | voidCheck => cases hi; exact absurd h5 (by decide)
  | _ => cases hi

/-! ### A change that passes its tests -/

theorem Check.rested_notices_length (c : Check) : c.rested.2.length ≤ 1 := by
  unfold Check.rested
  dsimp only
  split_ifs <;> simp

section
variable {s : State} {n : Nat} {tag : U8} {ch : Change} {c c' : Check} (hc : s.check n = some c) (hp : c.parked = none)
  (ha : applyChange s.store.settings (linesFree s.checks) c ch = .ok c')
include hc hp ha

/-- Applied at once: the changed check settled, with its record and CHECK SETTLED where it is due (R17, R18). -/
theorem takeChange_applied (h0 : c.inPool = 0) (hf : s.line.fits c'.rested.2) :
    takeChange n tag ch s =
      (s.withEvents ⟨c'.rested.1, [changeRecord c' ch false], c'.rested.2⟩, .accepted (changeData c' ch)) := by
  obtain ⟨hnum, hpool, hparked, -, -⟩ := applyChange_keeps ha
  have hcommit : s.commitChange c' ch false = s.withEvents ⟨c', [changeRecord c' ch false], []⟩ := by
    simp only [State.withEvents, List.append_nil]
    rfl
  have hpark : ¬c.parked.isSome = true := by simp [hp]
  simp only [takeChange, hc, if_neg hpark, ha, if_pos h0]
  rw [hcommit, State.withEvents_settled (ev := ⟨c', [changeRecord c' ch false], []⟩) hc (hnum.trans (findCheck_number hc))
    (hparked.trans hp) (hpool.trans h0) hf]
  rfl

/-- Parked behind the tenders of the check: BARRIER, and nothing is queued (R17). -/
theorem takeChange_parked (h0 : 0 < c.inPool) :
    takeChange n tag ch s =
      (s.putCheck { c with parked := some { change := ch, tag := tag }, state := .barrier }, .parked) := by
  have hnum : c.number = n := findCheck_number hc
  subst hnum
  have hpark : ¬c.parked.isSome = true := by simp [hp]
  simp only [takeChange, hc, if_neg hpark, ha, if_neg (Nat.pos_iff_ne_zero.mp h0)]
  rw [settleCheck_quiet (c := { c with parked := some { change := ch, tag := tag } }) (check_putCheck (by exact hc))
    (fun h => by cases h), putCheck_twice (by rfl)]
  rfl

end

end Sys2Proof.Machine

open Sys2Proof Sys2Proof.Machine

/-- Settles O15: the owner of each change takes it by R17, and the three answers of R17 follow. -/
theorem changesTaken : Obligations.ChangesTaken := by
  refine ⟨?_, ?_, ?_⟩
  · intro i kind tag s hi h2 h5 ht hs refused
    refine ⟨fun h => (changeAsked_none_decided hi h2 h5 h).exec_refused ht hs rfl, fun n ch h => ?_⟩
    have hrefused : ∀ {r : Reason}, takeChange n.toNat tag ch s.owe = s.owe.refuse r → refused r :=
      (changeAsked_decided h).exec_refused ht hs
    refine ⟨fun hc => hrefused ?_, fun c hc => ⟨fun hp => hrefused ?_, fun r hp ha => hrefused ?_⟩⟩
    · have hc' : s.owe.check n.toNat = none := hc
      simp only [takeChange, hc']
    · have hc' : s.owe.check n.toNat = some c := hc
      simp only [takeChange, hc', if_pos hp]
    · have hc' : s.owe.check n.toNat = some c := hc
      have ha' : applyChange s.owe.store.settings (linesFree s.owe.checks) c ch = .error r := ha
      have hpark : ¬c.parked.isSome = true := by simp [hp]
      simp only [takeChange, hc', if_neg hpark, ha']
  · intro i kind tag n ch s c c' h ht hl hs hc hp h0 ha
    have hlen := c'.rested_notices_length
    have hfits : s.owe.line.fits c'.rested.2 := .inr (by
      have : s.owe.line.places = s.line.places + 1 := by simp [State.owe, State.setLine, ServerLine.places]; omega
      omega)
    have htake := takeChange_applied (s := s.owe) (tag := tag) hc hp ha h0 hfits
    have hnum : c'.rested.1.number = n.toNat := (applyChange_keeps ha).1.trans (findCheck_number hc)
    have hdrop : (s.owe.withEvents ⟨c'.rested.1, [changeRecord c' ch false], c'.rested.2⟩).line.queue.drop s.line.queue.length =
        c'.rested.2 := List.drop_left ..
    obtain ⟨hst, hreply⟩ := State.answer_answeredFrom (kind := kind) (tag := tag) htake (List.prefix_append s.line.queue _)
    rw [hdrop] at hst hreply
    refine ⟨_, (changeAsked_decided h).exec_answer ht hs, hst, hreply, ?_, fun m hm => ?_⟩
    · rw [hst]
      exact hnum ▸ findCheck_putCheck_same (c := c'.rested.1) (c' := c) (hnum ▸ hc)
    · rw [hst]
      exact findCheck_putCheck_ne (hnum ▸ hm)
  · intro i kind tag n ch s c c' h ht hs hc hp h0 ha
    rw [(changeAsked_decided h).exec_answer ht hs]
    exact congrArg _ (State.answer_quiet s (takeChange_parked (s := s.owe) hc hp ha h0) le_rfl)
end

section
/-! The tests and the trial of the check changes (R18, R20 to R25, R40). -/

namespace Sys2Proof.Machine

open Sys2Proof

/-- The trial of a change (R18, R25): the limits on the totals computed anew, then the changed check. -/
def Trial (st : Settings) (mode : ServiceMode) (lines : List LineEntry) (covers : Nat) (plan : SplitPlan) (good : Totals → Check)
    (r : Except Reason Check) : Prop :=
  let t := computeTotals st mode covers lines
  let short : Prop := ∃ k fixed, plan = .byAmount k fixed ∧ t.d < fixed.sum
  (99999999 < t.d → r = .error .totalLimit) ∧ (t.d ≤ 99999999 → short → r = .error .range) ∧
  (t.d ≤ 99999999 → ¬short → r = .ok (good t))

theorem SplitPlan.lt_fixedSum {plan : SplitPlan} {d : Nat} :
    d < plan.fixedSum ↔ ∃ k fixed, plan = .byAmount k fixed ∧ d < fixed.sum := by
  cases plan <;> simp [SplitPlan.fixedSum]

/-- Steps 2 and 3 of a run of the split engine are the trial's limits. -/
theorem Trial.of_engine {st : Settings} {mode : ServiceMode} {lines : List LineEntry} {covers : Nat} {plan : SplitPlan}
    {good : Totals → Check} {r : Except Reason Check}
    (herr : ∀ x, engineRefusal plan (computeTotals st mode covers lines) = some x → r = .error x)
    (hok : engineRefusal plan (computeTotals st mode covers lines) = none → r = .ok (good (computeTotals st mode covers lines))) :
    Trial st mode lines covers plan good r := by
  simp only [Trial, ← SplitPlan.lt_fixedSum]
  refine ⟨fun h => herr _ ?_, fun h hs => herr _ ?_, fun h hs => hok ?_⟩
  · rw [engineRefusal, if_pos (by exact h)]
  · rw [engineRefusal, if_neg (by exact Nat.not_lt.mpr h), if_pos hs]
  · rw [engineRefusal, if_neg (by exact Nat.not_lt.mpr h), if_neg hs]

theorem recompute_trial (st : Settings) (c : Check) :
    Trial st c.mode c.lines c.covers c.plan (fun t => { c with totals := t, shares := buildShares st c.plan c.lines c.covers t })
      (recompute st c) :=
  .of_engine (fun x h => by simp only [recompute, h]) (fun h => by simp only [recompute, h])

theorem recomputeLocked_trial (st : Settings) (c : Check) (d amount : Nat) :
    Trial st c.mode c.lines c.covers c.plan (fun t => { c with totals := t, shares := growRemainder st c.shares (t.d - d) amount })
      (recomputeLocked st c d amount) :=
  .of_engine (fun x h => by simp only [recomputeLocked, h]) (fun h => by simp only [recomputeLocked, h])

/-- The remainder share's growth: share 25 grows where it exists, and is created with the increase where it does not (R40). -/
theorem growRemainder_eq (st : Settings) (shares : List Share) (increase amount : Nat) :
    growRemainder st shares increase amount =
      if ∃ x ∈ shares, x.number = 25 then
        shares.map fun x => if x.number = 25 then
          { x with due := x.due + increase, openAmt := x.openAmt + increase, tipBase := x.tipBase + tipBaseOf st amount increase } else x
      else shares ++ [{ number := 25, due := increase, openAmt := increase, tipBase := tipBaseOf st amount increase }] := by
  have hany : (shares.any fun x => x.number == 25) = true ↔ ∃ x ∈ shares, x.number = 25 := by simp
  rw [growRemainder]
  by_cases h : ∃ x ∈ shares, x.number = 25
  · rw [if_pos h, if_pos (hany.mpr h)]
  · rw [if_neg h, if_neg (mt hany.mp h), List.map_append, List.map_congr_left (g := id), List.map_id]
    · simp [newShare]
    · intro x hx
      exact if_neg fun hn => h ⟨x, hx, hn⟩

theorem modify_length_append {α : Type} (f : α → α) (before after : List α) (a : α) :
    (before ++ a :: after).modify before.length f = before ++ f a :: after := by
  simp [List.modify_eq_take_drop]

theorem voidLine_append (before after : List LineEntry) (l : LineEntry) :
    voidLine (before ++ l :: after) (before.length + 1) = before ++ { l with voided := true } :: after := by
  rw [voidLine, Nat.add_sub_cancel, modify_length_append]

/-- The seats a change of covers adds, as bits (R24). -/
theorem seatRange_getLsbD {lo hi b : Nat} (hb : b < 32) : (seatRange (min lo hi) hi).getLsbD b = decide (lo ≤ b ∧ b < hi) := by
  have hpow : 2 ^ hi - 2 ^ min lo hi = 2 ^ min lo hi * (2 ^ (hi - min lo hi) - 1) := by
    rw [Nat.mul_sub, ← pow_add, Nat.mul_one]
    congr 2
    omega
  rw [seatRange, BitVec.getLsbD_ofNat, hpow, Nat.testBit_two_pow_mul, Nat.testBit_two_pow_sub_one]
  simp only [hb, decide_true, Bool.true_and, ← Bool.decide_and, ge_iff_le]
  refine decide_eq_decide.mpr ?_
  omega

/-- Under BY SEAT the new seats join the last group (R24). -/
theorem SplitPlan.withCovers_bySeat {init : List U32} {last joined : U32} {old new : Nat}
    (h : ∀ b, b < 32 → joined.getLsbD b = (last.getLsbD b || decide (old ≤ b ∧ b < new))) :
    (SplitPlan.bySeat (init ++ [last])).withCovers old new = .bySeat (init ++ [joined]) := by
  have hj : last ||| seatRange (min old new) new = joined := by
    refine BitVec.eq_of_getLsbD_eq fun b hb => ?_
    rw [BitVec.getLsbD_or, seatRange_getLsbD hb, h b hb]
  have hlast : (init ++ [last]).length - 1 = init.length := by simp
  simp only [SplitPlan.withCovers, hlast, modify_length_append, hj]

theorem SplitPlan.withCovers_other {plan : SplitPlan} {old new : Nat} (h : ∀ groups, plan ≠ .bySeat groups) :
    plan.withCovers old new = plan := by
  cases plan with
  | bySeat groups => exact absurd rfl (h groups)
  | whole | even k | byAmount k fixed => rfl

/-- A seat set reaches above a number of covers where it is not within it (R3, R20). -/
theorem seatsWithin_false {v : U32} {n : Nat} : (!seatsWithin v n) = true ↔ ∃ b, v.getLsbD b = true ∧ n ≤ b := by
  rw [Bool.not_eq_true', ← Bool.not_eq_true, seatsWithin_iff, not_not]

section
variable {st : Settings} {free : Nat} {c : Check}

/-- ADD ITEM once its tests pass: the line is added, and the trial depends on the payment lock (R20, R21). -/
theorem applyChange_addItem {price quantity taxClass : Nat} {seats : U32} (h : ¬∃ b, seats.getLsbD b = true ∧ c.covers ≤ b)
    (hroom : c.lines.length < 96) (hfree : 0 < free) :
    applyChange st free c (.addItem price quantity taxClass seats) =
      if c.begun then
        recomputeLocked st { c with lines := addLine c.lines price quantity taxClass seats } c.totals.d (price * quantity)
      else recompute st { c with lines := addLine c.lines price quantity taxClass seats } :=
  (if_neg (mt seatsWithin_false.mp h)).trans (if_neg (by exact not_or.mpr ⟨Nat.not_le.mpr hroom, hfree.ne'⟩))

/-- VOID ITEM of a line number without a line (R22). -/
theorem applyChange_voidItem_range {line : Nat} (hb : c.begun = false) (h : line = 0 ∨ c.lines.length < line) :
    applyChange st free c (.voidItem line) = .error .range := by
  have hnone : (if line = 0 then none else c.lines[line - 1]?) = none := by
    split
    · rfl
    · exact List.getElem?_eq_none (by omega)
  simp [applyChange, hb, hnone]

/-- VOID ITEM of a line the check has (R22). -/
theorem applyChange_voidItem {before after : List LineEntry} {l : LineEntry} {line : Nat} (hb : c.begun = false)
    (hl : c.lines = before ++ l :: after) (hn : line = before.length + 1) :
    applyChange st free c (.voidItem line) =
      if l.voided then .error .range else recompute st { c with lines := before ++ { l with voided := true } :: after } := by
  subst hn
  simp [applyChange, hb, hl, voidLine_append]

/-- SET COVERS before payment: the lines, then the groups of a BY SEAT plan, must be within the new covers (R24). -/
theorem applyChange_setCovers_beyond {covers : Nat} (hb : c.begun = false)
    (h : (c.lines.any fun l => !seatsWithin l.seats covers) = true ∨
      ∃ groups, c.plan = .bySeat groups ∧ (groups.any fun g => !seatsWithin g covers) = true) :
    applyChange st free c (.setCovers covers) = .error .range := by
  by_cases hl : (c.lines.any fun l => !seatsWithin l.seats covers) = true
  · simp only [applyChange, hb, Bool.false_eq_true, if_false, if_pos hl]
  · obtain ⟨groups, hp, hg⟩ := h.resolve_left hl
    simp only [applyChange, hb, Bool.false_eq_true, if_false, if_neg hl, hp, if_pos hg]

theorem applyChange_setCovers {covers : Nat} (hb : c.begun = false)
    (h : ¬((c.lines.any fun l => !seatsWithin l.seats covers) = true ∨
      ∃ groups, c.plan = .bySeat groups ∧ (groups.any fun g => !seatsWithin g covers) = true)) :
    applyChange st free c (.setCovers covers) =
      recompute st { c with covers := covers, plan := c.plan.withCovers c.covers covers } := by
  obtain ⟨hl, hg⟩ := not_or.mp h
  rw [applyChange, if_neg (by simp [hb]), if_neg hl]
  split
  · rename_i groups hp
    exact if_neg fun hany => hg ⟨groups, hp, hany⟩
  all_goals
    rename_i hp
    rw [SplitPlan.withCovers_other (by simp [hp])]

end

end Sys2Proof.Machine

open Sys2Proof Sys2Proof.Machine

/-- Settles O16: the tests of each change, then its trial. -/
theorem changesTested : Obligations.ChangesTested := by
  intro st free c above trial rebuilt
  have hbuilt : ∀ (lines : List LineEntry) (covers : Nat) (plan : SplitPlan) (r : Except Reason Check),
      recompute st { c with lines := lines, covers := covers, plan := plan } = r → rebuilt lines covers plan r := by
    rintro lines covers plan r rfl
    exact recompute_trial st { c with lines := lines, covers := covers, plan := plan }
  refine ⟨?_, ?_, ?_, ?_⟩
  -- ADD ITEM
  · intro price quantity taxClass seats r lines locked
    refine ⟨fun h => ?_, fun h hfull => ?_, fun h hroom hfree => ⟨fun hb => ?_, fun hb => ?_⟩⟩
    · exact if_pos (seatsWithin_false.mpr h)
    · exact (if_neg (mt seatsWithin_false.mp h)).trans (if_pos (by exact hfull))
    · exact hbuilt _ _ _ _ ((applyChange_addItem h hroom hfree).trans (if_neg (by simp [hb]))).symm
    · have hlocked : locked = fun t => { c with
          lines := lines, totals := t, shares := growRemainder st c.shares (t.d - c.totals.d) (price * quantity) } := by
        funext t
        rw [growRemainder_eq]
        rfl
      have hr : r = recomputeLocked st { c with lines := lines } c.totals.d (price * quantity) :=
        (applyChange_addItem h hroom hfree).trans (if_pos hb)
      rw [hlocked, hr]
      exact recomputeLocked_trial st { c with lines := lines } c.totals.d (price * quantity)
  -- VOID ITEM
  · intro line r
    refine ⟨fun hb => ?_, fun hb h => applyChange_voidItem_range hb h, fun before l after hb hl hn => ?_⟩
    · exact if_pos hb
    · have hr : r = _ := applyChange_voidItem hb hl hn
      exact ⟨fun hv => hr.trans (if_pos hv), fun hv => hbuilt _ _ _ _ (hr.trans (if_neg (by simp [hv]))).symm⟩
  -- SET SPLIT
  · intro plan r valid
    have hfits : (!plan.fits c.covers c.totals.d) = true ↔ ¬valid := by
      rw [Bool.not_eq_true', ← Bool.not_eq_true, SplitPlan.fits_iff]
    refine ⟨fun hb => if_pos hb, fun hb hv => ?_, fun hb hv => hbuilt _ _ _ _ ?_⟩
    · exact (if_neg (by simp [hb])).trans (if_pos (hfits.mpr hv))
    · exact ((if_neg (by simp [hb])).trans (if_neg (mt hfits.mp (not_not.mpr hv)))).symm
  -- SET COVERS
  · intro covers r beyond
    have hbeyond : beyond ↔ (c.lines.any fun l => !seatsWithin l.seats covers) = true ∨
        ∃ groups, c.plan = .bySeat groups ∧ (groups.any fun g => !seatsWithin g covers) = true := by
      simp only [List.any_eq_true, seatsWithin_false]
      rfl
    refine ⟨fun hb => if_pos hb, fun hb h => applyChange_setCovers_beyond hb (hbeyond.mp h), fun hb h => ?_⟩
    have hr : r = _ := applyChange_setCovers hb (mt hbeyond.mpr h)
    refine ⟨fun hp => hbuilt _ _ _ _ ?_, fun init last joined hp hj => hbuilt _ _ _ _ ?_⟩
    · rw [hr, SplitPlan.withCovers_other hp]
    · rw [hr, hp, SplitPlan.withCovers_bySeat hj]
end

section
/-! The split engine's sums: the parts of an allocation add up to what is divided, and so do the seats of a line (R30 to R36). -/

namespace Sys2Proof.Machine

open Sys2Proof

/-! ### Sums over a range -/

theorem sum_map_range (k : Nat) (f : Nat → Nat) : ((List.range k).map f).sum = ∑ i ∈ Finset.range k, f i := rfl

/-- A list mapped is its entries mapped by number. -/
theorem map_eq_map_range {α β : Type} (l : List α) (d : α) (f : α → β) :
    l.map f = (List.range l.length).map fun i => f (l.getD i d) := by
  refine List.ext_getElem (by simp) fun i h1 h2 => ?_
  have hi : i < l.length := by simpa using h1
  simp [List.getD_eq_getElem?_getD, hi]

theorem sum_getD (l : List Nat) : ∑ i ∈ Finset.range l.length, l.getD i 0 = l.sum := by
  rw [← sum_map_range, ← map_eq_map_range l 0 fun a => a, List.map_id']

/-- Where the parts have distinct ranks below their number, as many parts are served as there are places. -/
theorem sum_served {k n : Nat} {rank : Nat → Nat} (hinj : Set.InjOn rank (Finset.range k)) (hlt : ∀ i < k, rank i < k) (hn : n ≤ k) :
    ∑ i ∈ Finset.range k, (if rank i < n then 1 else 0) = n := by
  have himage : (Finset.range k).image rank = Finset.range k := by
    refine Finset.eq_of_subset_of_card_le (fun r hr => ?_) (by rw [Finset.card_image_of_injOn hinj])
    obtain ⟨i, hi, rfl⟩ := Finset.mem_image.mp hr
    exact Finset.mem_range.mpr (hlt i (Finset.mem_range.mp hi))
  have hserved : ((Finset.range k).filter fun i => rank i < n).image rank = Finset.range n := by
    refine (Finset.filter_image (p := fun r => r < n)).symm.trans ?_
    rw [himage]
    ext r
    simp only [Finset.mem_filter, Finset.mem_range]
    omega
  rw [← Finset.card_filter, ← Finset.card_image_of_injOn (hinj.mono (Finset.coe_subset.mpr (Finset.filter_subset ..))), hserved, Finset.card_range]

/-! ### The even division (R31) -/

theorem sum_evenPart {x k : Nat} (hk : 0 < k) : ∑ i ∈ Finset.range k, evenPart x k i = x := by
  have hserved := sum_served (rank := id) (k := k) Function.injective_id.injOn (fun _ h => h) (Nat.mod_lt x hk).le
  simp only [id] at hserved
  simp only [evenPart, Finset.sum_add_distrib, hserved, Finset.sum_const, Finset.card_range, smul_eq_mul, Nat.div_add_mod]

/-! ### Largest-remainder allocation (R30) -/

/-- The order of the leftover pass: a greater remainder first, equal ones by number. -/
abbrev servedFirst (rem : Nat → Nat) (j i : Nat) : Prop := rem i < rem j ∨ (rem j = rem i ∧ j < i)

theorem servedBefore_card (rem : Nat → Nat) (k i : Nat) :
    servedBefore rem k i = ((Finset.range k).filter fun j => servedFirst rem j i).card := by
  refine (congrArg List.length (List.filter_congr (q := fun j => decide (servedFirst rem j i)) fun j _ => ?_)).trans rfl
  simp [servedFirst, Bool.decide_or, Bool.decide_and, beq_eq_decide]

theorem servedBefore_lt {rem : Nat → Nat} {k i : Nat} (hi : i < k) : servedBefore rem k i < k := by
  rw [servedBefore_card]
  refine lt_of_lt_of_eq (Finset.card_lt_card (Finset.filter_ssubset.mpr ⟨i, Finset.mem_range.mpr hi, ?_⟩)) (Finset.card_range k)
  rintro (h | ⟨-, h⟩) <;> exact lt_irrefl _ h

/-- A part served first has the lower rank. -/
theorem servedBefore_lt_of_first {rem : Nat → Nat} {k i j : Nat} (hj : j < k) (h : servedFirst rem j i) :
    servedBefore rem k j < servedBefore rem k i := by
  rw [servedBefore_card, servedBefore_card]
  refine Finset.card_lt_card (Finset.ssubset_iff_subset_ne.mpr ⟨fun x hx => ?_, fun he => ?_⟩)
  · obtain ⟨hk, hx⟩ := Finset.mem_filter.mp hx
    exact Finset.mem_filter.mpr ⟨hk, by omega⟩
  · have hmem : j ∈ (Finset.range k).filter fun x => servedFirst rem x i := Finset.mem_filter.mpr ⟨Finset.mem_range.mpr hj, h⟩
    rw [← he] at hmem
    have := (Finset.mem_filter.mp hmem).2
    omega

theorem servedBefore_injOn (rem : Nat → Nat) (k : Nat) : Set.InjOn (servedBefore rem k) (Finset.range k) := by
  intro i hi j hj he
  by_contra hne
  have hi : i < k := Finset.mem_range.mp hi
  have hj : j < k := Finset.mem_range.mp hj
  rcases (by omega : servedFirst rem i j ∨ servedFirst rem j i) with h | h
  · exact absurd he (servedBefore_lt_of_first hi h).ne
  · exact absurd he (servedBefore_lt_of_first hj h).ne'

theorem allocate_length (x : Nat) (weights : List Nat) : (allocate x weights).length = weights.length := by
  unfold allocate
  dsimp only
  split <;> simp

/-- The parts of an allocation over weights of a positive sum add up to what is allocated: the base parts leave fewer units than there
are parts, and each of those goes to one of the parts served first (R30). -/
theorem allocate_sum {x : Nat} {weights : List Nat} (h : 0 < weights.sum) : (allocate x weights).sum = x := by
  let a (i : Nat) : Nat := x * weights.getD i 0
  have hbase : (weights.map fun w => x * w / weights.sum).sum = ∑ i ∈ Finset.range weights.length, a i / weights.sum := by
    rw [map_eq_map_range weights 0]
    rfl
  have hsplit : ∑ i ∈ Finset.range weights.length, (weights.sum * (a i / weights.sum) + a i % weights.sum) = x * weights.sum := by
    simp only [Nat.div_add_mod, a, ← Finset.mul_sum, sum_getD]
  rw [Finset.sum_add_distrib, ← Finset.mul_sum, mul_comm x] at hsplit
  have hrem : ∑ i ∈ Finset.range weights.length, a i % weights.sum ≤ weights.length * weights.sum := by
    refine (Finset.sum_le_sum fun i _ => (Nat.mod_lt (a i) h).le).trans_eq ?_
    simp
  have hle : ∑ i ∈ Finset.range weights.length, a i / weights.sum ≤ x :=
    Nat.le_of_mul_le_mul_left (by omega) h
  have hleft : x - ∑ i ∈ Finset.range weights.length, a i / weights.sum ≤ weights.length := by
    refine Nat.le_of_mul_le_mul_left ?_ h
    rw [Nat.mul_sub, mul_comm weights.sum weights.length]
    omega
  have hserved := sum_served (servedBefore_injOn (fun i => a i % weights.sum) weights.length)
    (fun i hi => servedBefore_lt hi) hleft
  simp only [allocate, if_neg h.ne', sum_map_range, hbase, Finset.sum_add_distrib]
  exact (congrArg _ hserved).trans (by simp only [a] at hle ⊢; omega)

/-- An allocation adds up wherever weights of sum 0 come with nothing to allocate. -/
theorem allocate_sum_of_zero {x : Nat} {weights : List Nat} (h : weights.sum = 0 → x = 0) : (allocate x weights).sum = x := by
  rcases Nat.eq_zero_or_pos weights.sum with h0 | h0
  · rw [h h0]
    simp [allocate, h0]
  · exact allocate_sum h0

/-! ### Seats (R34) -/

theorem seatList_nodup (v : U32) : (seatList v).Nodup :=
  (List.nodup_range.filter _).map fun _ _ h => Nat.succ_injective h

theorem LineEntry.seatsOf_nodup (l : LineEntry) (covers : Nat) : (l.seatsOf covers).Nodup := by
  rw [LineEntry.seatsOf]
  split
  · exact List.nodup_range.map fun _ _ h => Nat.succ_injective h
  · exact seatList_nodup _

/-- The seats of a line are seats of the check. -/
theorem LineEntry.mem_seatsOf {l : LineEntry} {covers seat : Nat} (hl : ∀ b, l.seats.getLsbD b = true → b < covers)
    (h : seat ∈ l.seatsOf covers) : ∃ b < covers, b + 1 = seat := by
  rw [LineEntry.seatsOf] at h
  split at h
  · simpa using h
  · obtain ⟨b, hb, he⟩ := mem_seatList.mp h
    exact ⟨b, hl b hb, he⟩

theorem LineEntry.seatsOf_ne_nil {l : LineEntry} {covers : Nat} (h : 1 ≤ covers) : l.seatsOf covers ≠ [] := by
  rw [LineEntry.seatsOf]
  split
  · simp
    omega
  · rename_i h0
    obtain ⟨b, hb⟩ : ∃ b, l.seats.getLsbD b = true := by
      by_contra hn
      exact h0 (BitVec.eq_of_getLsbD_eq fun b _ => by simpa using fun hb => hn ⟨b, hb⟩)
    exact List.ne_nil_of_mem (mem_seatList.mpr ⟨b, hb, rfl⟩)

theorem seatPart_of_not_mem {l : LineEntry} {covers seat : Nat} (h : seat ∉ l.seatsOf covers) : seatPart l covers seat = 0 := by
  have hnone : (l.seatsOf covers).findIdx? (fun s => s == seat) = none := by
    rw [List.findIdx?_eq_none_iff]
    intro s hs
    have hne : s ≠ seat := fun he => h (he ▸ hs)
    simpa using hne
  simp only [seatPart, hnone]

theorem seatPart_getElem {l : LineEntry} {covers i : Nat} (hi : i < (l.seatsOf covers).length) :
    seatPart l covers (l.seatsOf covers)[i] = evenPart l.amount (l.seatsOf covers).length i := by
  have hsome : (l.seatsOf covers).findIdx? (fun s => s == (l.seatsOf covers)[i]) = some i := by
    rw [List.findIdx?_eq_some_iff_getElem]
    refine ⟨hi, by simp, fun j hj => ?_⟩
    have := (List.nodup_iff_injective_getElem.mp (l.seatsOf_nodup covers)).ne (a₁ := ⟨j, hj.trans hi⟩) (a₂ := ⟨i, hi⟩)
      (by simpa using hj.ne)
    simpa using this
  simp only [seatPart, hsome]

/-- The seats' parts of a line add up to its amount (R34). -/
theorem sum_seatPart {l : LineEntry} {covers : Nat} (h : 1 ≤ covers) (hl : ∀ b, l.seats.getLsbD b = true → b < covers) :
    ∑ b ∈ Finset.range covers, seatPart l covers (b + 1) = l.amount := by
  have hseats : (l.seatsOf covers).map (seatPart l covers) =
      (List.range (l.seatsOf covers).length).map (evenPart l.amount (l.seatsOf covers).length) := by
    refine List.ext_getElem (by simp) fun i h1 h2 => ?_
    have hi : i < (l.seatsOf covers).length := by simpa using h1
    simp [seatPart_getElem hi]
  have hsub : (l.seatsOf covers).toFinset ⊆ (Finset.range covers).image (· + 1) := fun seat hs => by
    obtain ⟨b, hb, he⟩ := LineEntry.mem_seatsOf hl (List.mem_toFinset.mp hs)
    exact Finset.mem_image.mpr ⟨b, Finset.mem_range.mpr hb, he⟩
  calc ∑ b ∈ Finset.range covers, seatPart l covers (b + 1)
      = ∑ seat ∈ (Finset.range covers).image (· + 1), seatPart l covers seat :=
        (Finset.sum_image fun _ _ _ _ h => Nat.succ_injective h).symm
    _ = ∑ seat ∈ (l.seatsOf covers).toFinset, seatPart l covers seat :=
        (Finset.sum_subset hsub fun seat _ hs => seatPart_of_not_mem fun hm => hs (List.mem_toFinset.mpr hm)).symm
    _ = ((l.seatsOf covers).map (seatPart l covers)).sum := List.sum_toFinset _ (l.seatsOf_nodup covers)
    _ = l.amount := by
        rw [hseats, sum_map_range, sum_evenPart (List.length_pos_iff.mpr (LineEntry.seatsOf_ne_nil h))]

end Sys2Proof.Machine
end

section
/-! The shares a plan builds: their dues add up to the total due (R4, R32 to R39). -/

namespace Sys2Proof.Machine

open Sys2Proof

/-! ### The subtotals of the groups (R35) -/

/-- Every seat of the check stands in one group. -/
def seatedOnce (groups : List U32) (covers : Nat) : Prop := ∀ b, b < covers → (groups.filter fun g => g.getLsbD b).length = 1

/-- A sum over the seats of a group, as a sum over the bits of its set. -/
theorem sum_seatList (g : U32) (f : Nat → Nat) :
    ((seatList g).map f).sum = ∑ b ∈ Finset.range 32, if g.getLsbD b then f (b + 1) else 0 := by
  rw [seatList, List.map_map, ← Finset.sum_filter,
    List.filter_congr (q := fun b => decide (g.getLsbD b = true)) fun b _ => Bool.decide_eq_true.symm]
  rfl

/-- A figure of each seat, summed over the groups that partition the seats, is its sum over the seats. -/
theorem sum_groups {groups : List U32} {covers : Nat} {f : Nat → Nat} (hone : seatedOnce groups covers)
    (hf : ∀ b, covers ≤ b → f (b + 1) = 0) :
    (groups.map fun g => ((seatList g).map f).sum).sum = ∑ b ∈ Finset.range covers, f (b + 1) := by
  have hcount : (groups.map fun g => ((seatList g).map f).sum).sum =
      ∑ b ∈ Finset.range 32, (groups.filter fun g => g.getLsbD b).length * f (b + 1) := by
    clear hone
    induction groups with
    | nil => simp
    | cons g groups ih =>
      rw [List.map_cons, List.sum_cons, ih, sum_seatList, ← Finset.sum_add_distrib]
      refine Finset.sum_congr rfl fun b _ => ?_
      by_cases hb : g.getLsbD b = true
      · simp [hb, Nat.add_mul, Nat.add_comm]
      · simp [hb]
  have hcovers : Finset.range covers ⊆ Finset.range 32 := fun b hb => by
    have h1 := hone b (Finset.mem_range.mp hb)
    obtain ⟨g, hg⟩ := List.length_pos_iff_exists_mem.mp (h1 ▸ Nat.one_pos)
    exact Finset.mem_range.mpr (BitVec.lt_of_getLsbD (List.mem_filter.mp hg).2)
  rw [hcount, ← Finset.sum_subset hcovers fun b _ hb => by rw [hf b (by simpa using hb), Nat.mul_zero]]
  exact Finset.sum_congr rfl fun b hb => by rw [hone b (Finset.mem_range.mp hb), Nat.one_mul]

/-- The lines name no seat above the covers. -/
def linesSeated (lines : List LineEntry) (covers : Nat) : Prop := ∀ l ∈ lines, ∀ b, l.seats.getLsbD b = true → b < covers

/-- The seat amounts of a class add up to its subtotal (R26, R34). -/
theorem sum_seatAmount {lines : List LineEntry} {covers : Nat} (n : Nat) (h : 1 ≤ covers) (hl : linesSeated lines covers) :
    ∑ b ∈ Finset.range covers, seatAmount lines covers n (b + 1) = classSubtotal lines n := by
  unfold seatAmount classSubtotal
  generalize hk : (lines.filter fun l => !l.voided && l.taxClass == n) = kept
  have hkept : ∀ l ∈ kept, ∀ b, l.seats.getLsbD b = true → b < covers := fun l hm =>
    hl l (List.mem_filter.mp (hk ▸ hm)).1
  clear hk
  induction kept with
  | nil => simp
  | cons l kept ih =>
    simp only [List.map_cons, List.sum_cons, Finset.sum_add_distrib]
    rw [sum_seatPart h (hkept l (.head _)), ih fun x hx => hkept x (.tail _ hx)]

theorem seatAmount_above {lines : List LineEntry} {covers b : Nat} (n : Nat) (hl : linesSeated lines covers) (hb : covers ≤ b) :
    seatAmount lines covers n (b + 1) = 0 := by
  refine List.sum_eq_zero fun x hx => ?_
  obtain ⟨l, hm, rfl⟩ := List.mem_map.mp hx
  refine seatPart_of_not_mem fun hs => ?_
  obtain ⟨b', hb', he⟩ := LineEntry.mem_seatsOf (hl l (List.mem_filter.mp hm).1) hs
  omega

/-- The groups' subtotals of a class add up to the class subtotal (R35). -/
theorem sum_groupSubtotal {groups : List U32} {lines : List LineEntry} {covers : Nat} (n : Nat) (h : 1 ≤ covers)
    (hl : linesSeated lines covers) (hone : seatedOnce groups covers) :
    (groups.map (groupSubtotal lines covers n)).sum = classSubtotal lines n :=
  (sum_groups hone fun _ hb => seatAmount_above n hl hb).trans (sum_seatAmount n h hl)

/-! ### The dues -/

theorem basisPoints_zero (bp : Nat) : basisPoints 0 bp = 0 := by simp [basisPoints]

/-- The subtotal of a group over the four classes. -/
def groupSubtotals (lines : List LineEntry) (covers : Nat) (g : U32) : Nat :=
  groupSubtotal lines covers 0 g + groupSubtotal lines covers 1 g + groupSubtotal lines covers 2 g + groupSubtotal lines covers 3 g

/-- The due of part i of a BY SEAT plan (R35, R36). -/
def seatDue (groups : List U32) (lines : List LineEntry) (covers : Nat) (t : Totals) (i : Nat) : Nat :=
  (groups.map (groupSubtotals lines covers)).getD i 0 + (allocate t.t0 (groups.map (groupSubtotal lines covers 0))).getD i 0 +
    (allocate t.t1 (groups.map (groupSubtotal lines covers 1))).getD i 0 +
    (allocate t.t2 (groups.map (groupSubtotal lines covers 2))).getD i 0 +
    (allocate t.t3 (groups.map (groupSubtotal lines covers 3))).getD i 0 +
    (allocate t.sc (groups.map (groupSubtotals lines covers))).getD i 0

theorem getD_map {α : Type} {l : List α} {f : α → Nat} {i : Nat} {a : α} (h : l[i]? = some a) : (l.map f).getD i 0 = f a := by
  simp [List.getD_eq_getElem?_getD, h]

/-- The figures of BY SEAT: each group's due and subtotal. -/
theorem seatShares_eq (groups : List U32) (lines : List LineEntry) (covers : Nat) (t : Totals) :
    seatShares groups lines covers t =
      (List.range groups.length).map fun i => (seatDue groups lines covers t i, (groups.map (groupSubtotals lines covers)).getD i 0) := by
  have hsubs : (List.range groups.length).map (fun i =>
      (groups.map (groupSubtotal lines covers 0)).getD i 0 + (groups.map (groupSubtotal lines covers 1)).getD i 0 +
        (groups.map (groupSubtotal lines covers 2)).getD i 0 + (groups.map (groupSubtotal lines covers 3)).getD i 0) =
      groups.map (groupSubtotals lines covers) := by
    refine List.ext_getElem (by simp) fun i h1 h2 => ?_
    have hlt : i < groups.length := by simpa using h2
    have hi : groups[i]? = some groups[i] := List.getElem?_eq_getElem hlt
    simp only [List.getElem_map, List.getElem_range, getD_map hi, groupSubtotals]
  simp only [seatShares, hsubs, seatDue]

theorem sum_groupSubtotals {groups : List U32} {lines : List LineEntry} {covers : Nat} (h : 1 ≤ covers)
    (hl : linesSeated lines covers) (hone : seatedOnce groups covers) :
    (groups.map (groupSubtotals lines covers)).sum =
      classSubtotal lines 0 + classSubtotal lines 1 + classSubtotal lines 2 + classSubtotal lines 3 := by
  unfold groupSubtotals
  simp only [List.sum_map_add, sum_groupSubtotal _ h hl hone]

/-- The dues of a BY SEAT plan add up to the total due (R5, R36). -/
theorem sum_seatDue {st : Settings} {mode : ServiceMode} {groups : List U32} {lines : List LineEntry} {covers : Nat} (h : 1 ≤ covers)
    (hl : linesSeated lines covers) (hone : seatedOnce groups covers) :
    ∑ i ∈ Finset.range groups.length, seatDue groups lines covers (computeTotals st mode covers lines) i =
      (computeTotals st mode covers lines).d := by
  have hparts : ∀ (x : Nat) (f : U32 → Nat), ((groups.map f).sum = 0 → x = 0) →
      ∑ i ∈ Finset.range groups.length, (allocate x (groups.map f)).getD i 0 = x := by
    intro x f hx
    have hlen : (allocate x (groups.map f)).length = groups.length := by rw [allocate_length, List.length_map]
    rw [← hlen, sum_getD, allocate_sum_of_zero hx]
  have hsubs : ∑ i ∈ Finset.range groups.length, (groups.map (groupSubtotals lines covers)).getD i 0 =
      (computeTotals st mode covers lines).s := by
    have hlen : groups.length = (groups.map (groupSubtotals lines covers)).length := by rw [List.length_map]
    rw [hlen, sum_getD, sum_groupSubtotals h hl hone]
    rfl
  have htax : ∀ n bp, (groups.map (groupSubtotal lines covers n)).sum = 0 → basisPoints (classSubtotal lines n) bp = 0 := by
    intro n bp h0
    rw [← sum_groupSubtotal n h hl hone, h0, basisPoints_zero]
  have hservice : (groups.map (groupSubtotals lines covers)).sum = 0 → (computeTotals st mode covers lines).sc = 0 := by
    intro h0
    rw [sum_groupSubtotals h hl hone] at h0
    simp only [computeTotals, h0, basisPoints_zero, ite_self]
  simp only [seatDue, Finset.sum_add_distrib, hsubs]
  rw [hparts _ _ (by exact htax 0 st.taxRate0), hparts _ _ (by exact htax 1 st.taxRate1), hparts _ _ (by exact htax 2 st.taxRate2),
    hparts _ _ (by exact htax 3 st.taxRate3), hparts _ _ hservice]
  rfl

/-- The dues of a BY AMOUNT plan add up to the total due: the last share takes what the fixed amounts leave (R37). -/
theorem sum_amountDue {k d : Nat} {fixed : List Nat} (hk : fixed.length + 1 = k) (hd : fixed.sum ≤ d) :
    ∑ i ∈ Finset.range k, amountDue k fixed d i = d := by
  subst hk
  have hfixed : ∀ i ∈ Finset.range fixed.length, amountDue (fixed.length + 1) fixed d i = fixed.getD i 0 := fun i hi =>
    if_pos (by have := Finset.mem_range.mp hi; omega)
  rw [Finset.sum_range_succ, Finset.sum_congr rfl hfixed, sum_getD, amountDue, if_neg (lt_irrefl _)]
  omega

/-! ### The shares built -/

/-- Every share built is a new share (R4). -/
theorem mem_buildShares {st : Settings} {plan : SplitPlan} {lines : List LineEntry} {covers : Nat} {t : Totals} {x : Share}
    (h : x ∈ buildShares st plan lines covers t) : ∃ number group fixed due tipBase, x = newShare number group fixed due tipBase := by
  cases plan with
  | whole => exact ⟨_, _, _, _, _, List.mem_singleton.mp h⟩
  | even | bySeat | byAmount =>
    obtain ⟨i, -, rfl⟩ := List.mem_map.mp h
    exact ⟨_, _, _, _, _, rfl⟩

/-- The shares of a BY SEAT plan (R35, R36, R39). -/
theorem buildShares_bySeat (st : Settings) (groups : List U32) (lines : List LineEntry) (covers : Nat) (t : Totals) :
    buildShares st (.bySeat groups) lines covers t = (List.range groups.length).map fun i =>
      newShare (i + 1) (groups.getD i 0) 0 (seatDue groups lines covers t i)
        (tipBaseOf st ((groups.map (groupSubtotals lines covers)).getD i 0) (seatDue groups lines covers t i)) := by
  rw [buildShares]
  refine List.map_congr_left fun i hi => ?_
  have hfigure : (seatShares groups lines covers t).getD i (0, 0) =
      (seatDue groups lines covers t i, (groups.map (groupSubtotals lines covers)).getD i 0) := by
    rw [seatShares_eq, List.getD_eq_getElem?_getD, List.getElem?_map, List.getElem?_range (List.mem_range.mp hi)]
    rfl
  rw [hfigure]

end Sys2Proof.Machine

open Sys2Proof Sys2Proof.Machine

/-- Settles O11: the dues of each method add up, and each share is read off what its plan builds. -/
theorem duesSumToTotal : Obligations.DuesSumToTotal := by
  intro st plan mode lines covers t shares seated sub subs tip
  refine ⟨?_, fun x hx => ?_, ?_, ?_, ?_, ?_⟩
  · rintro (rfl | ⟨k, rfl, hk⟩ | ⟨groups, rfl, h, rfl, hl, hone⟩ | ⟨k, fixed, rfl, hk, hd⟩)
    · exact Nat.add_zero _
    · simp only [shares, buildShares, List.map_map]
      exact sum_evenPart hk
    · simp only [shares, buildShares_bySeat, List.map_map]
      exact sum_seatDue h hl hone
    · simp only [shares, buildShares, List.map_map]
      exact sum_amountDue hk hd
  · obtain ⟨number, group, fixed, due, tipBase, rfl⟩ := mem_buildShares hx
    exact ⟨rfl, rfl, rfl⟩
  · rintro rfl
    exact ⟨rfl, rfl⟩
  · rintro k i rfl hi
    simp only [shares, buildShares, evenDivision, List.map_map, List.getElem?_map, List.getElem?_range hi, Option.map_some]
    exact ⟨rfl, rfl⟩
  · rintro groups i g rfl hg
    have hi : i < groups.length := (List.getElem?_eq_some_iff.mp hg).1
    have hgroup : groups.getD i 0 = g := by rw [List.getD_eq_getElem?_getD, hg, Option.getD_some]
    have hsubs : (groups.map (groupSubtotals lines covers)).getD i 0 = groupSubtotals lines covers g := getD_map hg
    simp only [shares, buildShares_bySeat, List.getElem?_map, List.getElem?_range hi, Option.map_some, hgroup, seatDue, hsubs]
    rfl
  · rintro k fixed i rfl hi
    simp only [shares, buildShares, List.map_map, List.getElem?_map, List.getElem?_range hi, Option.map_some]
    exact ⟨rfl, rfl⟩
end

section
/-! Largest-remainder allocation part by part: what the bases leave, and who is served from it (R30). -/

namespace Sys2Proof.Machine

open Sys2Proof

/-! ### Bases, remainders and the leftover (R30) -/

/-- What the base pass of an allocation leaves. -/
def leftoverOf (x : Nat) (w : List Nat) : Nat := x - (w.map fun a => x * a / w.sum).sum

/-- The remainder of part i, from 0. -/
def remainderOf (x : Nat) (w : List Nat) (i : Nat) : Nat := x * w.getD i 0 % w.sum

theorem remainderOf_of_getElem? (x : Nat) {w : List Nat} {i a : Nat} (h : w[i]? = some a) : remainderOf x w i = x * a % w.sum := by
  rw [remainderOf, List.getD_eq_getElem?_getD, h, Option.getD_some]

/-- Part i of an allocation: its base, and one unit where fewer parts than the leftover are served before it. -/
theorem allocate_getElem? {x : Nat} {w : List Nat} {i a : Nat} (h : 0 < w.sum) (ha : w[i]? = some a) :
    (allocate x w)[i]? =
      some (x * a / w.sum + if servedBefore (remainderOf x w) w.length i < leftoverOf x w then 1 else 0) := by
  have hi : i < w.length := (List.getElem?_eq_some_iff.mp ha).1
  have hw : w.getD i 0 = a := by rw [List.getD_eq_getElem?_getD, ha, Option.getD_some]
  simp only [allocate, if_neg h.ne', List.getElem?_map, List.getElem?_range hi, Option.map_some, hw]
  rfl

theorem mem_allocate_of_sum_zero {x p : Nat} {w : List Nat} (h : w.sum = 0) (hp : p ∈ allocate x w) : p = 0 := by
  simp only [allocate, if_pos h, List.map_const', List.mem_replicate] at hp
  exact hp.2

/-- The bases, taken A times, and the remainders make up x × A. -/
theorem sum_bases_add_remainders (x : Nat) (w : List Nat) :
    w.sum * (w.map fun a => x * a / w.sum).sum + (w.map fun a => x * a % w.sum).sum = x * w.sum := by
  rw [← List.sum_map_mul_left, ← List.sum_map_add]
  simp only [Nat.div_add_mod]
  rw [List.sum_map_mul_left w (fun a => a) x, List.map_id']

theorem sum_bases_le {x : Nat} {w : List Nat} (h : 0 < w.sum) : (w.map fun a => x * a / w.sum).sum ≤ x :=
  Nat.le_of_mul_le_mul_left (by have := sum_bases_add_remainders x w; rw [mul_comm x] at this; omega) h

theorem sum_remainders (x : Nat) (w : List Nat) :
    (w.map fun a => x * a % w.sum).sum = leftoverOf x w * w.sum := by
  have hsplit := sum_bases_add_remainders x w
  rw [leftoverOf, Nat.sub_mul, mul_comm (List.sum _) w.sum]
  omega

theorem sum_remainderOf (x : Nat) (w : List Nat) :
    ∑ i ∈ Finset.range w.length, remainderOf x w i = leftoverOf x w * w.sum := by
  rw [← sum_remainders x w, map_eq_map_range w 0]
  rfl

/-- Every remainder is below A, so the leftover is below the number of parts. -/
theorem leftoverOf_lt_length {x : Nat} {w : List Nat} (h : 0 < w.sum) : leftoverOf x w < w.length := by
  have hparts : w ≠ [] := by rintro rfl; exact lt_irrefl _ h
  refine Nat.lt_of_mul_lt_mul_right (a := w.sum) ?_
  calc leftoverOf x w * w.sum = ∑ i ∈ Finset.range w.length, remainderOf x w i := (sum_remainderOf x w).symm
    _ < ∑ _i ∈ Finset.range w.length, w.sum :=
        Finset.sum_lt_sum_of_nonempty (Finset.nonempty_range_iff.mpr (by simpa using hparts)) fun _ _ => Nat.mod_lt _ h
    _ = w.length * w.sum := by simp

/-! ### The leftover pass (R30) -/

/-- A part without remainder is served after every part with one, and those are no fewer than the leftover units. -/
theorem leftoverOf_le_servedBefore {x i : Nat} {w : List Nat} (h : 0 < w.sum) (hi : remainderOf x w i = 0) :
    leftoverOf x w ≤ servedBefore (remainderOf x w) w.length i := by
  rw [servedBefore_card]
  refine Nat.le_of_mul_le_mul_right (c := w.sum) ?_ h
  have hfirst : ((Finset.range w.length).filter fun j => remainderOf x w j ≠ 0) ⊆
      (Finset.range w.length).filter fun j => servedFirst (remainderOf x w) j i :=
    Finset.monotone_filter_right _ fun j _ hj => .inl (hi ▸ Nat.pos_of_ne_zero hj)
  calc leftoverOf x w * w.sum
      = ∑ j ∈ (Finset.range w.length).filter fun j => remainderOf x w j ≠ 0, remainderOf x w j := by
        rw [Finset.sum_filter_ne_zero, sum_remainderOf x w]
    _ ≤ ((Finset.range w.length).filter fun j => remainderOf x w j ≠ 0).card * w.sum :=
        Finset.sum_le_card_nsmul _ _ _ fun _ _ => (Nat.mod_lt _ h).le
    _ ≤ _ := Nat.mul_le_mul_right _ (Finset.card_le_card hfirst)

/-- A part that fewer are served before is itself served first. -/
theorem servedFirst_of_servedBefore_lt {rem : Nat → Nat} {k i j : Nat} (hj : j < k)
    (h : servedBefore rem k i < servedBefore rem k j) : servedFirst rem i j := by
  by_contra hn
  have hne : i ≠ j := by rintro rfl; exact lt_irrefl _ h
  exact absurd (servedBefore_lt_of_first (k := k) hj (show servedFirst rem j i by omega)) h.asymm

/-- Among parts of equal remainder the order of the leftover pass is their order. -/
theorem servedBefore_of_equal {rem : Nat → Nat} {k i : Nat} (hi : i < k) (h : ∀ j < k, rem j = rem i) : servedBefore rem k i = i := by
  have hfirst : ((Finset.range k).filter fun j => servedFirst rem j i) = Finset.range i := by
    ext j
    simp only [Finset.mem_filter, Finset.mem_range]
    constructor
    · rintro ⟨hj, hlt | ⟨-, hlt⟩⟩
      · exact absurd (h j hj) hlt.ne'
      · exact hlt
    · exact fun hj => ⟨hj.trans hi, .inr ⟨h j (hj.trans hi), hj⟩⟩
  rw [servedBefore_card, hfirst, Finset.card_range]

/-- Each part is its base or one more, and a part of weight 0 gets nothing. -/
theorem allocate_part {x i a p : Nat} {w : List Nat} (h : 0 < w.sum) (ha : w[i]? = some a) (hp : (allocate x w)[i]? = some p) :
    (p = x * a / w.sum ∨ p = x * a / w.sum + 1) ∧ (a = 0 → p = 0) := by
  rw [allocate_getElem? h ha, Option.some.injEq] at hp
  refine ⟨by split at hp <;> omega, ?_⟩
  rintro rfl
  have hrem : remainderOf x w i = 0 := by rw [remainderOf_of_getElem? x ha, Nat.mul_zero, Nat.zero_mod]
  rw [if_neg (leftoverOf_le_servedBefore h hrem).not_gt] at hp
  simpa using hp.symm

/-- A part served where another is not has the greater remainder, or an equal one and the lower number. -/
theorem allocate_served_first {x i j a b : Nat} {w : List Nat} (h : 0 < w.sum) (ha : w[i]? = some a) (hb : w[j]? = some b)
    (hserved : (allocate x w)[i]? = some (x * a / w.sum + 1)) (hnot : (allocate x w)[j]? = some (x * b / w.sum)) :
    x * b % w.sum < x * a % w.sum ∨ (x * b % w.sum = x * a % w.sum ∧ i < j) := by
  have hlt : servedBefore (remainderOf x w) w.length i < leftoverOf x w := by
    by_contra hn
    simp [allocate_getElem? h ha, hn] at hserved
  have hle : ¬servedBefore (remainderOf x w) w.length j < leftoverOf x w := fun hn => by
    simp [allocate_getElem? h hb, hn] at hnot
  have hfirst : servedFirst (remainderOf x w) i j :=
    servedFirst_of_servedBefore_lt (List.getElem?_eq_some_iff.mp hb).1 (hlt.trans_le (Nat.le_of_not_lt hle))
  rw [servedFirst, remainderOf_of_getElem? x ha, remainderOf_of_getElem? x hb] at hfirst
  exact hfirst.imp_right (And.imp_left Eq.symm)

/-! ### The engine's allocations (R36) -/

/-- A class whose groups' subtotals sum to 0 bears no tax. -/
theorem tax_eq_zero {groups : List U32} {lines : List LineEntry} {covers n : Nat} (bp : Nat) (h : 1 ≤ covers)
    (hl : linesSeated lines covers) (hone : seatedOnce groups covers) (h0 : (groups.map (groupSubtotal lines covers n)).sum = 0) :
    basisPoints (classSubtotal lines n) bp = 0 := by
  rw [← sum_groupSubtotal n h hl hone, h0, basisPoints_zero]

/-- Groups whose subtotals sum to 0 bear no service charge. -/
theorem service_eq_zero {st : Settings} {mode : ServiceMode} {groups : List U32} {lines : List LineEntry} {covers : Nat}
    (h : 1 ≤ covers) (hl : linesSeated lines covers) (hone : seatedOnce groups covers)
    (h0 : (groups.map (groupSubtotals lines covers)).sum = 0) : (computeTotals st mode covers lines).sc = 0 := by
  rw [sum_groupSubtotals h hl hone] at h0
  simp only [computeTotals, h0, basisPoints_zero, ite_self]

end Sys2Proof.Machine

open Sys2Proof Sys2Proof.Machine

/-- Settles O10: the remainders add up to the leftover times A, and the leftover pass serves by rank. -/
theorem allocationSumsExactly : Obligations.AllocationSumsExactly := by
  refine ⟨fun x w => ⟨allocate_length x w, fun h p hp => mem_allocate_of_sum_zero h hp, fun h => ?_⟩, ?_⟩
  · exact ⟨allocate_sum h, sum_bases_le h, leftoverOf_lt_length h, sum_remainders x w, fun i a p ha hp => allocate_part h ha hp,
      fun i j a b ha hb hserved hnot => allocate_served_first h ha hb hserved hnot⟩
  · intro st mode lines covers groups h hl hone t sub subs use huse
    have hzero : use.2.sum = 0 → use.1 = 0 := by
      simp only [List.mem_cons, List.not_mem_nil, or_false] at huse
      rcases huse with rfl | rfl | rfl | rfl | rfl
      · exact tax_eq_zero st.taxRate0 h hl hone
      · exact tax_eq_zero st.taxRate1 h hl hone
      · exact tax_eq_zero st.taxRate2 h hl hone
      · exact tax_eq_zero st.taxRate3 h hl hone
      · exact service_eq_zero h hl hone
    exact ⟨hzero, allocate_sum_of_zero hzero⟩
end

section
/-! Even division, and the seats of a line in increasing seat number (R31, R34). -/

namespace Sys2Proof.Machine

open Sys2Proof

theorem evenDivision_getElem? (x : Nat) {k i : Nat} (h : i < k) : (evenDivision x k)[i]? = some (evenPart x k i) := by
  rw [evenDivision, List.getElem?_map, List.getElem?_range h, Option.map_some]

/-- Where there are fewer units than parts, the first parts get one each. -/
theorem evenPart_of_lt {x k : Nat} (i : Nat) (h : x < k) : evenPart x k i = if i < x then 1 else 0 := by
  rw [evenPart, Nat.div_eq_of_lt h, Nat.mod_eq_of_lt h, Nat.zero_add]

/-- Over weights all 1 the leftover is x mod k, and the remainders are equal, so the parts are served in their order. -/
theorem evenDivision_eq_allocate (x : Nat) {k : Nat} (hk : 0 < k) : evenDivision x k = allocate x (List.replicate k 1) := by
  have hsum : (List.replicate k 1).sum = k := by simp
  have hleft : leftoverOf x (List.replicate k 1) = x % k := by
    simp only [leftoverOf, List.map_replicate, List.sum_replicate, hsum, Nat.mul_one, smul_eq_mul]
    have := Nat.div_add_mod x k
    omega
  refine List.ext_getElem? fun i => ?_
  by_cases hi : i < k
  · have hone : ∀ j < k, (List.replicate k 1)[j]? = some 1 := fun j hj => List.getElem?_replicate_of_lt hj
    have hequal : ∀ j < k, remainderOf x (List.replicate k 1) j = remainderOf x (List.replicate k 1) i := fun j hj => by
      rw [remainderOf_of_getElem? x (hone j hj), remainderOf_of_getElem? x (hone i hi)]
    rw [evenDivision_getElem? x hi, allocate_getElem? (by rwa [hsum]) (hone i hi), hleft, List.length_replicate,
      servedBefore_of_equal hi hequal, hsum, Nat.mul_one, evenPart]
  · rw [List.getElem?_eq_none (by simpa [evenDivision] using hi),
      List.getElem?_eq_none (by simpa [allocate_length] using hi)]

theorem seatList_pairwise (v : U32) : (seatList v).Pairwise (· < ·) :=
  (List.pairwise_lt_range.filter _).map _ fun _ _ => Nat.succ_lt_succ

theorem LineEntry.seatsOf_pairwise (l : LineEntry) (covers : Nat) : (l.seatsOf covers).Pairwise (· < ·) := by
  rw [LineEntry.seatsOf]
  split
  · exact List.pairwise_lt_range.map _ fun _ _ => Nat.succ_lt_succ
  · exact seatList_pairwise _

theorem mem_seatList_iff {v : U32} {seat : Nat} : seat ∈ seatList v ↔ 1 ≤ seat ∧ v.getLsbD (seat - 1) = true := by
  rw [mem_seatList]
  constructor
  · rintro ⟨b, hb, rfl⟩
    exact ⟨Nat.le_add_left 1 b, hb⟩
  · exact fun ⟨h1, hb⟩ => ⟨seat - 1, hb, Nat.sub_add_cancel h1⟩

theorem LineEntry.mem_seatsOf_iff (l : LineEntry) (covers seat : Nat) : seat ∈ l.seatsOf covers ↔
    if l.seats = 0 then 1 ≤ seat ∧ seat ≤ covers else 1 ≤ seat ∧ l.seats.getLsbD (seat - 1) = true := by
  rw [LineEntry.seatsOf]
  split
  · simp only [List.mem_map, List.mem_range]
    exact ⟨by rintro ⟨b, hb, rfl⟩; omega, fun ⟨h1, h2⟩ => ⟨seat - 1, by omega, by omega⟩⟩
  · exact mem_seatList_iff

end Sys2Proof.Machine

open Sys2Proof Sys2Proof.Machine

/-- Settles O9: with every weight 1 the leftover pass serves the parts in their order, and a seat's part is the one at its place. -/
theorem evenDivisionIsAllocation : Obligations.EvenDivisionIsAllocation := by
  refine ⟨fun x k hk => evenDivision_eq_allocate x hk, fun x k i hi => evenDivision_getElem? x hi, fun x k i hx hi => ?_,
    LineEntry.seatsOf_pairwise, LineEntry.mem_seatsOf_iff, fun l covers i seat hs => ?_⟩
  · rw [evenDivision_getElem? x hi, evenPart_of_lt i hx]
  · obtain ⟨hi, rfl⟩ := List.getElem?_eq_some_iff.mp hs
    rw [evenDivision_getElem? _ hi, seatPart_getElem hi]
end

section
/-! When the service charge applies, and the tip of a PRESENT (R28, R41, R42). -/

namespace Sys2Proof.Machine

open Sys2Proof

/-- Service applies always under ON, and under AUTO where a party size is set and the covers reach it (R28). -/
theorem serviceApplies_iff {mode : ServiceMode} {party covers : Nat} :
    serviceApplies mode party covers = true ↔ mode = .on ∨ (mode = .auto ∧ party ≠ 0 ∧ party ≤ covers) := by
  cases mode <;> simp [serviceApplies]

theorem not_serviceApplies_iff {mode : ServiceMode} {party covers : Nat} :
    ¬serviceApplies mode party covers = true ↔ mode = .off ∨ (mode = .auto ∧ (party = 0 ∨ covers < party)) := by
  cases mode <;> simp [serviceApplies, ← Decidable.or_iff_not_imp_left]

/-- A tip is cut to the cap, and the flag says that it was (R42). -/
theorem settleTip_eq_min (cap tipBase part due kind value : Nat) :
    settleTip cap tipBase part due kind value =
      (min (tipBeforeCap (proratedBase tipBase part due) kind value) (tipCapOf (proratedBase tipBase part due) cap),
        decide (tipCapOf (proratedBase tipBase part due) cap < tipBeforeCap (proratedBase tipBase part due) kind value)) := by
  rw [settleTip]
  split
  · next h => rw [Nat.min_eq_right h.le, decide_eq_true h]
  · next h => rw [Nat.min_eq_left (Nat.le_of_not_lt h), decide_eq_false h]

end Sys2Proof.Machine

open Sys2Proof Sys2Proof.Machine

/-- Settles O12: the totals are read off the run, service by whether it applies; the tip is the lesser of itself and its cap. -/
theorem totalsAndTips : Obligations.TotalsAndTips := by
  refine ⟨fun st mode covers lines => ?_, settleTip_eq_min⟩
  exact ⟨rfl, rfl, rfl, rfl, rfl, rfl, fun h => if_pos (serviceApplies_iff.mpr h), fun h => if_neg (not_serviceApplies_iff.mpr h), rfl⟩
end

section
/-! A PRESENT that intake refuses, and one that issues a tender: AWAITING with the uplink UP, STORING with it DOWN (R49 to R53). -/

namespace Sys2Proof.Machine

open Sys2Proof

/-- The fields of a PRESENT as the Tender Pool takes them (section 3.2). -/
def presentmentOf (share : U8) (part : U32) (tipKind : U8) (tipValue : U32) (token : Bytes) (m : EntryMethod) (tag : U8) :
    Presentment :=
  { share := share.toNat, part := part.toNat, tipKind := tipKind.toNat, tipValue := tipValue.toNat, token := token, method := m
    tag := tag }

/-- A good PRESENT of a quiet slot in BOUND or PROBE reaches the Tender Pool (R48, R92, R100, R110). -/
theorem exec_present {s : State} {i : Slot} {share : U8} {part : U32} {tipKind : U8} {tipValue : U32} {token : Bytes}
    {method tag : U8} {m : EntryMethod}
    (hgood : (UplinkMessage.present share part tipKind tipValue token method tag).good = true) (hquiet : s.quietSlot i)
    (hm : EntryMethod.ofCode method = some m)
    (hmode : (∃ n, (s.slot i).mode = .routed (.bound n)) ∨ ∃ k, (s.slot i).mode = .probe k) :
    exec (.present i share part tipKind tipValue token method tag) s =
      .next (s.takePresent i (presentmentOf share part tipKind tipValue token m tag)) := by
  show Host.Outcome.next (s.uplinkTurn i (.present share part tipKind tipValue token method tag)) = _
  rw [State.uplinkTurn_quiet _ hquiet hgood]
  simp only [State.handleMessage, hm, State.handPresent]
  rcases hmode with ⟨n, hmode⟩ | ⟨k, hmode⟩ <;> rw [hmode] <;> rfl

/-- The share part of a PRESENT's field: 0 asks for the whole open amount (R50). -/
theorem sharePart_toNat (part : U32) (openAmt : Nat) :
    sharePart part.toNat openAmt = if part = 0 then openAmt else min part.toNat openAmt :=
  if_congr (BitVec.toNat_inj (y := 0#32)) rfl rfl

/-! ### A tender that enters the pool and is shown to its slot -/

/-- A slot whose new tender is shown to it: the tender in flight, the display placed (R51, R97). -/
def SlotEntry.issued (e : SlotEntry) (id : Nat) (d : Display) : SlotEntry :=
  { e with inFlight := some id, display := some (e.displayNumber, d), nextItem := itemAfter e.displayNumber }

/-- A tender in the pool, its hold on its share and its display at its slot (R51 to R53). -/
def State.issued (s : State) (t : Tender) (c : Check) (d : Display) : State :=
  { s with
    checks := Machine.putCheck s.checks { c.hold t.share t.part with state := (c.hold t.share t.part).settledState }
    tenders := { s.tenders with pool := s.tenders.pool ++ [t], lastId := t.id }
    radio := { s.radio with slots := s.radio.slots.set t.slot ((s.slot t.slot).issued t.id d) } }

theorem State.enterPool_placeDisplay {s : State} {t : Tender} {c : Check} (d : Display) (hc : s.check t.check = some c)
    (hmode : (s.slot t.slot).mode ≠ .routed .muted) : (s.enterPool t c).placeDisplay t.slot d = s.issued t c d := by
  have hslot : (s.enterPool t c).slot t.slot = { s.slot t.slot with inFlight := some t.id } := by
    rw [enterPool_eq hc]
    exact State.slot_putSlot_same s t.slot _
  rw [State.placeDisplay, hslot, SlotEntry.placeDisplay_open d (by exact hmode), enterPool_eq hc, State.issued, State.putSlot,
    State.setRadio]
  simp only [Vector.set_set]
  rfl

/-- The online path, its AUTH REQUEST admitted (R52). -/
theorem State.issueOnline_eq {s : State} {t : Tender} {c : Check} (hc : s.check t.check = some c)
    (hmode : (s.slot t.slot).mode ≠ .routed .muted) (hp : s.line.places < 56) :
    s.issueOnline t c =
      (s.issued { t with expiry := s.run.clock + s.store.settings.authWait } c (.text textAuthorising t.part t.tip)).enqueue
        (authRequestNotice { t with expiry := s.run.clock + s.store.settings.authWait }) := by
  have henter := State.enterPool_placeDisplay (t := { t with expiry := s.run.clock + s.store.settings.authWait })
    (.text textAuthorising t.part t.tip) hc hmode
  rw [← henter, State.issueOnline]
  dsimp only
  rw [State.offer_room _ _ (by rw [enterPool_eq (by exact hc)]; exact hp)]
  rfl

/-! ### The store does not read the slots -/

theorem State.beginWrite_putSlot (s : State) (i : Slot) (e : SlotEntry) : (s.putSlot i e).beginWrite = s.beginWrite.putSlot i e := by
  unfold State.beginWrite
  rw [State.putSlot_store]
  split <;> rfl

theorem State.handFree_putSlot (s : State) (i : Slot) (e : SlotEntry) : (s.putSlot i e).handFree = s.handFree.putSlot i e := by
  unfold State.handFree
  rw [State.putSlot_store, State.putSlot_uplink]
  split
  · split <;> rfl
  · rfl

theorem State.placeRequest_putSlot (s : State) (r : StoreRequest) (i : Slot) (e : SlotEntry) :
    (s.putSlot i e).placeRequest r = (s.placeRequest r).putSlot i e := by
  have hplaced : (s.putSlot i e).setStore { (s.putSlot i e).store with waiting := (s.putSlot i e).store.waiting ++ [r] } =
      (s.setStore { s.store with waiting := s.store.waiting ++ [r] }).putSlot i e := rfl
  rw [State.placeRequest, State.placeRequest, State.pumpStore, State.pumpStore, hplaced, State.beginWrite_putSlot,
    State.handFree_putSlot, State.beginWrite_putSlot]

/-- A request placed and a display shown at the same event, in either order. -/
theorem State.placeRequest_placeDisplay (s : State) (r : StoreRequest) (i : Slot) (d : Display) :
    (s.placeRequest r).placeDisplay i d = (s.placeDisplay i d).placeRequest r := by
  obtain ⟨w, c, k, hframe⟩ := s.placeRequest_frame r
  have hslot : (s.placeRequest r).slot i = s.slot i := State.slot_of_radio (by rw [hframe]) i
  rw [State.placeDisplay, State.placeDisplay, hslot, State.placeRequest_putSlot]

/-- The offline path of a tender that passes R79, up to the store's service (R53, R80, R85, R145). -/
theorem State.issueOffline_hands {s : State} {t t' : Tender} {c : Check} (hc : s.check t.check = some c)
    (hmode : (s.slot t.slot).mode ≠ .routed .muted) (hr : offlineRefusal s t = none)
    (ht : t' = { t with state := .storing, forward := s.uplink.nextForward }) :
    let f := forwardEntryOf t' s.uplink.nextForward s.run.clock
    let issued := s.issued t' c (.text textApproving t.part t.tip)
    State.hands
      { issued with
        uplink := { s.uplink with
          queue := s.uplink.queue ++ [f], exposure := s.uplink.exposure + t.requested
          nextForward := s.uplink.nextForward + 1 }
        store := { s.store with waiting := s.store.waiting ++ [.append f (s.uplink.nextForward + 1)] } }
      (s.issueOffline t c) := by
  subst ht
  intro f issued
  have hissued : (s.enterPool { t with state := .storing, forward := s.uplink.nextForward } c).placeDisplay t.slot
      (.text textApproving t.part t.tip) = issued :=
    State.enterPool_placeDisplay (t := { t with state := .storing, forward := s.uplink.nextForward }) _ hc hmode
  have hshown : s.issueOffline t c = State.placeRequest
      (issued.setUplink { s.uplink with
        queue := s.uplink.queue ++ [f], exposure := s.uplink.exposure + t.requested
        nextForward := s.uplink.nextForward + 1 }) (.append f (s.uplink.nextForward + 1)) := by
    simp only [State.issueOffline, hr]
    rw [State.approveOffline, State.placeRequest_placeDisplay, ← hissued, enterPool_eq (by exact hc)]
    rfl
  rw [hshown]
  exact State.placeRequest_hands (issued.setUplink _) (.append f _)

end Sys2Proof.Machine

open Sys2Proof Sys2Proof.Machine

/-- Settles O22: intake stops at the first test that fails, and its OUTCOME goes to a slot that is not MUTED. -/
theorem presentRefused : Obligations.PresentRefused := by
  intro s i share part tipKind tipValue token method tag r hgood hquiet hmode hr
  obtain ⟨m, hm⟩ := present_method hgood
  have hopen : (s.slot i).mode ≠ .routed .muted := by
    rcases hmode with ⟨n, h⟩ | ⟨k, h⟩ <;> simp [h]
  have hintake : intake s i (presentmentOf share part tipKind tipValue token m tag).share = .error r := (intake_spec s i _).1 r hr
  rw [exec_present hgood hquiet hm hmode, State.takePresent, hintake]
  simp only [State.placeOutcome, SlotEntry.placeOutcome_open _ hopen]
  rfl

/-- Settles O23: intake passes, and the tender issued waits for its AUTH RESULT. -/
theorem presentIssuesOnline : Obligations.PresentIssuesOnline := by
  intro s i share part tipKind tipValue token method tag n c x m hgood hquiet hm hmode hc hx hr hplaces hup p tip t e
  obtain rfl : c.number = n := findCheck_number hc
  obtain ⟨hintake, -, -⟩ := intake_ok hmode hc hx hr
  have hopen : (s.slot i).mode ≠ .routed .muted := by simp [hmode]
  have ht : newTender s i (presentmentOf share part tipKind tipValue token m tag) c x = { t with expiry := 0 } := by
    simp only [newTender, presentmentOf, sharePart_toNat]
    rfl
  have htaken : s.takePresent i (presentmentOf share part tipKind tipValue token m tag) = s.issueOnline { t with expiry := 0 } c := by
    rw [← ht, State.takePresent, presentmentOf, hintake]
    simp only [hup]
  rw [exec_present hgood hquiet hm (.inl ⟨_, hmode⟩), htaken,
    State.issueOnline_eq (t := { t with expiry := 0 }) hc hopen (Nat.lt_trans hplaces (by decide))]
  rfl

/-- Settles O24: intake and the tests of R79 pass, and the append of the tender issued is placed. -/
theorem presentStoredOffline : Obligations.PresentStoredOffline := by
  intro s i share part tipKind tipValue token method tag n c x m hgood hquiet hm hmode hc hx hr hdown p tip hoff t f e
  obtain rfl : c.number = n := findCheck_number hc
  obtain ⟨hintake, -, -⟩ := intake_ok hmode hc hx hr
  have hopen : (s.slot i).mode ≠ .routed .muted := by simp [hmode]
  have ht : newTender s i (presentmentOf share part tipKind tipValue token m tag) c x =
      { t with state := .awaiting, forward := 0 } := by
    simp only [newTender, presentmentOf, sharePart_toNat]
    rfl
  have htaken : s.takePresent i (presentmentOf share part tipKind tipValue token m tag) =
      s.issueOffline { t with state := .awaiting, forward := 0 } c := by
    rw [← ht, State.takePresent, presentmentOf, hintake]
    simp only [hdown]
  refine ⟨_, by rw [exec_present hgood hquiet hm (.inl ⟨_, hmode⟩), htaken], ?_⟩
  exact State.issueOffline_hands (t := { t with state := .awaiting, forward := 0 }) (t' := t) hc hopen
    ((offlineRefusal_spec ..).trans hoff) rfl
end

section
/-! A CANCEL of a slot's tender (R61). -/

namespace Sys2Proof.Machine

open Sys2Proof

/-- A CANCEL of a quiet slot in BOUND reaches the Tender Pool (R61, R92, R100). -/
theorem exec_cancel {s : State} {i : Slot} {n : Nat} (tag : U8) (hquiet : s.quietSlot i) (hmode : (s.slot i).mode = .routed (.bound n)) :
    exec (.cancel i tag) s = .next (s.takeCancel i tag) := by
  show Host.Outcome.next (s.uplinkTurn i (.cancel tag)) = _
  rw [State.uplinkTurn_quiet _ hquiet rfl, State.handleMessage, State.handCancel, hmode]

/-- What a CANCEL does to the tender its slot has in flight (R61). -/
theorem State.takeCancel_found {s : State} {i : Slot} {tag : U8} {id : Nat} {t : Tender} (hid : (s.slot i).inFlight = some id)
    (ht : s.tenders.find id = some t) :
    s.takeCancel i tag =
      if t.tag ≠ tag then s
      else if t.state = .awaiting then
        (s.putTender { t with cancelRequested := true }).placeDisplay i (.text textCancelling 0 0)
      else s.placeDisplay i (.text textTooLate 0 0) := by
  rw [State.takeCancel, hid, Option.bind_some, ht]

/-- A display placed at a slot that is not MUTED (R97). -/
theorem State.placeDisplay_open {s : State} {i : Slot} (d : Display) (hmode : (s.slot i).mode ≠ .routed .muted) :
    s.placeDisplay i d = s.withSlot i
      { s.slot i with display := some ((s.slot i).displayNumber, d), nextItem := itemAfter (s.slot i).displayNumber } := by
  rw [State.placeDisplay, SlotEntry.placeDisplay_open d hmode, State.putSlot_eq_withSlot]

end Sys2Proof.Machine

open Sys2Proof Sys2Proof.Machine

/-- Settles O31: no tender in flight; one of another tag; an AWAITING one, marked; one in another state. -/
theorem cancelRequested : Obligations.CancelRequested := by
  intro s i tag n hquiet hmode e shown
  have hopen : (s.slot i).mode ≠ .routed .muted := by simp [hmode]
  rw [exec_cancel tag hquiet hmode]
  refine ⟨fun hnone => ?_, fun id t hid ht => ?_⟩
  · rw [State.takeCancel, hnone]
    rfl
  · rw [State.takeCancel_found hid ht]
    refine ⟨fun htag => ?_, fun htag hstate => ?_, fun htag hstate => ?_⟩
    · rw [if_pos htag]
    · rw [if_neg (not_not.mpr htag), if_pos hstate, State.placeDisplay_open _ (by exact hopen)]
      rfl
    · rw [if_neg (not_not.mpr htag), if_neg hstate, State.placeDisplay_open _ hopen]
end

section
/-! INTAKE HOLD, TIME SET and the step of the clock (R140 to R142). -/

namespace Sys2Proof.Machine

open Sys2Proof

/-- A command whose owner changes the state to `t` and queues nothing: its reply is queued behind that. -/
theorem exec_answered_changed {s t : State} {i : Instr} {tag : U8} {r : Reply} (c : HostCommand) (d : State → State × Reply)
    (hi : hostRowOf i = some (tag, c)) (ht : s.takes tag) (hw : c.wf = true) (hb : c.badCode = false)
    (hd : runHost ((c.frame tag).take 8) tag c s = s.answer c.kind tag d) (hr : d s.owe = (t.owe, r)) (hl : t.line = s.line) :
    exec i s = .next (t.replied c.kind tag r) := by
  rw [exec_taken hi ht hw hb, hd, s.answer_quiet hr (by rw [hl])]

theorem State.not_halted {s : State} (h : s.run.state ≠ .halted) : ¬s.halted = true := by simpa [State.halted] using h

/-- On and off are the codes 1 and 0 (R140, R175). -/
theorem U8.toNat_le_one {v : U8} : v.toNat ≤ 1 ↔ v = 0 ∨ v = 1 := by
  bv_omega

theorem intakeHold_halted {s : State} (v : U8) (hs : s.run.state = .halted) : intakeHold v s = s.refuse .state := by
  rw [intakeHold, if_pos (by simp [State.halted, hs])]

theorem intakeHold_range {s : State} {v : U8} (hs : s.run.state ≠ .halted) (hv : 1 < v.toNat) : intakeHold v s = s.refuse .range := by
  rw [intakeHold, if_neg (State.not_halted hs), if_neg (fun h => absurd (U8.toNat_le_one.mpr h) (by omega))]

theorem intakeHold_set {s : State} {v : U8} (hs : s.run.state ≠ .halted) (hv : v.toNat ≤ 1) :
    intakeHold v s = (s.setRun { s.run with hold := v == 1 }, .accepted [v]) := by
  rw [intakeHold, if_neg (State.not_halted hs), if_pos (U8.toNat_le_one.mp hv)]

/-- A live part counts a second, up to the clock's last value (R141). -/
theorem exec_clockStep {s : State} (hlive : s.live = true) :
    exec .clockStep s = .next { s with run := { s.run with clock := min Config.clockTop (s.run.clock + 1) } } := by
  show Host.Outcome.next (if s.live = true then _ else s) = _
  rw [if_pos hlive]
  rfl

end Sys2Proof.Machine

open Sys2Proof Sys2Proof.Machine

/-- Settles O55: each command passes its tests or is refused, and the clock steps while the part is live. -/
theorem holdAndClock : Obligations.HoldAndClock := by
  intro s tag
  refine ⟨fun ht => ⟨fun v hs => ?_, fun v hs hv => ?_, fun v hs hv => ?_, fun clock hclock => ?_, fun clock hclock _ => ?_⟩,
    fun hlive hclock => ?_, fun hlive hclock => ?_, fun hlive => ?_⟩
  · exact exec_answered (.intakeHold v) (intakeHold v) rfl ht rfl rfl rfl (intakeHold_halted v hs)
  · exact exec_answered (.intakeHold v) (intakeHold v) rfl ht rfl rfl rfl (intakeHold_range hs hv)
  · exact exec_answered_changed (.intakeHold v) (intakeHold v) rfl ht rfl rfl rfl (intakeHold_set (s := s.owe) hs hv) rfl
  · exact exec_answered (.timeSet clock) (timeSet clock) rfl ht rfl rfl rfl (if_pos hclock)
  · exact exec_answered_changed (.timeSet clock) (timeSet clock) rfl ht rfl rfl rfl (if_neg (Nat.not_lt.mpr hclock)) rfl
  · rw [exec_clockStep hlive, Nat.min_eq_right (by exact hclock)]
  · rw [exec_clockStep hlive, hclock]
    show Host.Outcome.next { s with run := { s.run with clock := 4294967295 } } = _
    rw [← hclock]
  · show Host.Outcome.next (if s.live = true then _ else s) = _
    rw [if_neg (by simp [hlive])]
end

section
/-! AUTH RESULTs that end no tender: out of turn, and an approval behind a tender that is not READY (R54, R55, R64). -/

namespace Sys2Proof.Machine

open Sys2Proof

/-! ### Answers out of turn -/

section
variable {s : State} (bytes : Bytes) {tender : U16} {outcome : U8} (approved : U32) (code : Bytes) (reason : U8)

/-- The three outcomes of an AUTH RESULT are the codes 1 to 3 (R54). -/
theorem authOutcome_iff : 1 ≤ outcome.toNat ∧ outcome.toNat ≤ 3 ↔ ¬(outcome ≠ 1 ∧ outcome ≠ 2 ∧ outcome ≠ 3) := by
  bv_omega

theorem authResult_halted (hs : s.run.state = .halted) : authResult bytes tender outcome approved code reason s = s.refuse .state := by
  rw [authResult, if_pos (by simp [State.halted, hs])]

theorem authResult_range (hs : s.run.state ≠ .halted) (ho : ¬(1 ≤ outcome.toNat ∧ outcome.toNat ≤ 3)) :
    authResult bytes tender outcome approved code reason s = s.refuse .range := by
  rw [authResult, if_neg (State.not_halted hs), if_pos (not_not.mp (mt authOutcome_iff.mpr ho))]

/-- The fault and the answer of an AUTH RESULT whose tender is not AWAITING, has ended, or is unknown (R54). -/
def TenderPool.outOfTurn (p : TenderPool) (tender : Nat) : FaultCode × Reply :=
  match p.find tender with
  | some _ => (.notAwaiting, .refused .notAwaiting)
  | none =>
    match p.findClosed tender with
    | some c => (.lateResult, .late c.reason)
    | none => (.noTender, .refused .noTender)

theorem authResult_outOfTurn (hs : s.run.state ≠ .halted) (ho : 1 ≤ outcome.toNat ∧ outcome.toNat ≤ 3)
    (hw : ∀ t, s.tenders.find tender.toNat = some t → t.state ≠ .awaiting) :
    authResult bytes tender outcome approved code reason s =
      (s.raise (s.tenders.outOfTurn tender.toNat).1 .serverLine bytes, (s.tenders.outOfTurn tender.toNat).2) := by
  rw [authResult, if_neg (State.not_halted hs), if_neg (authOutcome_iff.mp ho), TenderPool.outOfTurn]
  cases hf : s.tenders.find tender.toNat with
  | some t => exact if_neg (hw t hf)
  | none => cases s.tenders.findClosed tender.toNat <;> rfl

end

/-- An AUTH RESULT out of turn, its FAULT notice admitted, as one event (R54, R153 to R155). -/
theorem exec_authResult_outOfTurn {s : State} {tag : U8} {tender : U16} {outcome : U8} (approved : U32) {code : Bytes} (reason : U8)
    {f : FaultCode} {r : Reply} (ht : s.takes tag) (hl : code.length = 6) (hcode : code.all codeChar = true)
    (hs : s.run.state ≠ .halted) (ho : 1 ≤ outcome.toNat ∧ outcome.toNat ≤ 3)
    (hw : ∀ t, s.tenders.find tender.toNat = some t → t.state ≠ .awaiting)
    (hr : s.tenders.outOfTurn tender.toNat = (f, r)) (hadm : s.owe.admits f) :
    ∃ t : State, exec (.authResult tag tender outcome approved code reason) s = .next t ∧ answeredFrom s
      (s.owe.faulted f .serverLine ((HostCommand.authResult tender outcome approved code reason).frame tag)) t (r.frame 0x10 tag) := by
  refine ⟨_, exec_taken (c := .authResult tender outcome approved code reason) rfl ht (by simp [HostCommand.wf, hl])
    (by simp [HostCommand.badCode, hcode]), State.answer_answeredFrom ?_ (List.prefix_append ..)⟩
  rw [authResult_outOfTurn _ _ _ _ (by exact hs) ho (by exact hw), State.owe_tenders, hr, State.raise_faulted _ _ hadm, State.faulted_take]

/-! ### An approval behind a tender that is not READY -/

/-- A test for an over-approval only reports. -/
theorem State.overApproval_reported (s : State) (t : Tender) (approved : Nat) (bytes : Bytes) :
    Reported s (s.overApproval t approved bytes) := by
  rw [State.overApproval]
  split
  · exact raise_reported ..
  · exact Reported.refl s

theorem State.overApproval_admitted {s : State} {t : Tender} {approved : Nat} (bytes : Bytes)
    (h : t.requested < approved → s.admits .overApproval) : s.overApproval t approved bytes = s.approvalRaised t approved bytes := by
  rw [State.overApproval, State.approvalRaised]
  split
  · rename_i hr
    exact State.raise_faulted _ _ (h hr)
  · rfl

/-- The check and the OUTCOME of an approval, whatever the test for an over-approval reported; the tender is put back READY and its
check tested for posting (R55, R64). -/
theorem State.takeApproval_reported {s : State} {t : Tender} {approved : Nat} {code bytes : Bytes} {c : Check} {x : Share}
    (hmode : (s.slot t.slot).mode ≠ .routed .muted) (hc : s.check t.check = some c) (hx : c.share t.share = some x) :
    let a := min approved t.requested
    s.takeApproval t approved code bytes =
      (((s.overApproval t approved bytes).over (Machine.putCheck s.checks (c.release t.share (t.part - min a t.part)))
        { s.radio with slots := s.radio.slots.set t.slot ((s.slot t.slot).answered
            (approvalOutcome t a code (x.openAmt + (t.part - min a t.part)))) }).putTender (t.approve a code)).postReady t.check := by
  intro a
  have hreported := s.overApproval_reported t approved bytes
  have hnum : c.number = t.check := findCheck_number hc
  rw [State.takeApproval]
  dsimp only
  generalize s.overApproval t approved bytes = u at hreported ⊢
  have hcheck : (u.putTender (t.approve a code)).check t.check = some c := by
    rw [State.putTender_check, State.check, hreported.checks]
    exact hc
  have hreleased : ((u.putTender (t.approve a code)).putCheck (c.release t.share (t.part - min a t.part))).check t.check =
      some (c.release t.share (t.part - min a t.part)) :=
    hnum ▸ check_putCheck (c := c.release t.share (t.part - min a t.part)) (hnum ▸ hcheck)
  have hshare : (c.release t.share (t.part - min a t.part)).share t.share =
      some { x with held := x.held - (t.part - min a t.part), openAmt := x.openAmt + (t.part - min a t.part) } :=
    Check.share_mapShare hx fun _ => rfl
  rw [State.releaseHold_eq hcheck, show t.part - (t.approve a code).ps = t.part - min a t.part from rfl, hreleased,
    Option.bind_some, hshare, State.placeOutcome_answered (s := s) _ (by exact hreported.radio) hmode, ← hreported.checks]
  rfl

/-- The OUTCOME of an approval, field by field (R55, R67). -/
theorem approvalOutcome_eq (t : Tender) (a : Nat) (code : Bytes) (openAmt : Nat) :
    approvalOutcome t a code openAmt =
      { kind := if a = t.part + t.tip then .approved else .partially
        tag := t.tag, tender := t.id, share := t.share, part := t.part, tip := t.tip, deferred := t.deferred, clamped := t.clamped
        ps := min a t.part, pt := a - min a t.part
        code := if t.deferred then le 4 t.forward ++ [0, 0] else padded 6 0x20 code
        unpaid := t.part - min a t.part
        openAmt := if a = t.part + t.tip then 0 else openAmt } := by
  rw [approvalOutcome]
  by_cases hfull : a = t.part + t.tip
  · have hpaid : t.part - min a t.part = 0 := by omega
    rw [if_pos (by exact hfull), if_pos hfull, if_pos hfull, hpaid]
    rfl
  · rw [if_neg (by exact hfull), if_neg hfull, if_neg hfull]
    rfl

/-- A tender put back behind a head that is not READY: nothing posts (R64). -/
theorem State.putTender_waits {s : State} {t t' h : Tender} (hid : t'.id = t.id) (hf : s.tenders.find t.id = some t)
    (hh : s.tenders.issueHead t.check = some h) (hbehind : h.id ≠ t.id) (hready : h.state ≠ .ready) :
    (s.putTender t').postReady t.check = s.putTender t' := by
  refine postWithin_stops (fun u hu => ?_) _
  rw [← TenderPool.issueHead_eq, State.putTender_tenders, hid] at hu
  obtain rfl : h = u := Option.some.inj ((issueHead_put_behind hbehind hf hh).symm.trans hu)
  exact hready

/-- A tender of the pool put back is found under its id. -/
theorem TenderPool.find_put {pool : List Tender} {t t' : Tender} (hid : t'.id = t.id)
    (hf : pool.find? (fun u => u.id == t.id) = some t) :
    (pool.map fun u => if u.id = t.id then t' else u).find? (fun u => u.id == t.id) = some t' := by
  have hcomp : (fun u : Tender => u.id == t.id) ∘ (fun u => if u.id = t.id then t' else u) = fun u => u.id == t.id := by
    funext u
    by_cases h : u.id = t.id <;> simp [h, hid]
  rw [List.find?_map, hcomp, hf, Option.map_some, if_pos rfl]

/-- The standing of a tender put back READY (R54, R55). -/
theorem tenderStanding_ready {p : TenderPool} {t t' : Tender} (hid : t'.id = t.id) (ht : t'.state = .ready)
    (hf : p.find t.id = some t) :
    tenderStanding { p with pool := p.pool.map fun u => if u.id = t.id then t' else u } t.id = [3] := by
  have hfound : TenderPool.find { p with pool := p.pool.map fun u => if u.id = t.id then t' else u } t.id = some t' :=
    TenderPool.find_put hid hf
  rw [tenderStanding, hfound]
  simp only [ht]
  rfl

end Sys2Proof.Machine

open Sys2Proof Sys2Proof.Machine

/-- Settles O29: the run state and the outcome are tested, then the tender is looked up in the pool and in the closed list. -/
theorem answersOutOfTurn : Obligations.AnswersOutOfTurn := by
  intro s tag tender outcome approved code reason ht hl hcode i raised
  have hrefused : ∀ r, authResult (((HostCommand.authResult tender outcome approved code reason).frame tag).take 8) tender outcome
      approved code reason s.owe = s.owe.refuse r → exec i s = .next (s.replied 0x10 tag (.refused r)) := fun r hr =>
    exec_answered (.authResult tender outcome approved code reason) _ rfl ht (by simp [HostCommand.wf, hl])
      (by simp [HostCommand.badCode, hcode]) rfl hr
  refine ⟨fun hs => ?_, fun hs ho => ?_, fun hs h1 h3 => ⟨fun t hf hw hadm => ?_, fun c hf hc hadm => ?_, fun hf hc hadm => ?_⟩⟩
  · exact hrefused _ (authResult_halted _ _ _ _ hs)
  · exact hrefused _ (authResult_range _ _ _ _ hs (by omega))
  · exact exec_authResult_outOfTurn _ _ ht hl hcode hs ⟨h1, h3⟩ (fun u hu => by rw [hf] at hu; cases hu; exact hw)
      (by rw [TenderPool.outOfTurn, hf]) hadm
  · exact exec_authResult_outOfTurn _ _ ht hl hcode hs ⟨h1, h3⟩ (fun u hu => by rw [hf] at hu; cases hu)
      (by simp only [TenderPool.outOfTurn, hf, hc]) hadm
  · exact exec_authResult_outOfTurn _ _ ht hl hcode hs ⟨h1, h3⟩ (fun u hu => by rw [hf] at hu; cases hu)
      (by simp only [TenderPool.outOfTurn, hf, hc]) hadm

/-- Settles O26: the tender is put back READY behind the head, which keeps its check from posting. -/
theorem approvalWaitsItsTurn : Obligations.ApprovalWaitsItsTurn := by
  intro s tag tender outcome approved code reason t h c x ht hs hl hcode ho hpos hadm hf hw hcancel hh hbehind hready hc hx hmode
    a ps t' counted raised e
  have hid : t.id = tender.toNat := by simpa using List.find?_some hf
  have h3 : outcome ≠ 3 := by rintro rfl; rcases ho with h | h <;> exact absurd h (by decide)
  have hamt : approvedAmount outcome approved = approved.toNat := if_neg h3
  have hown : s.tenders.find t.id = some t := hid ▸ hf
  have hraised : counted.overApproval t approved.toNat
      (((HostCommand.authResult tender outcome approved code reason).frame tag).take 8) = raised := by
    rw [State.overApproval_admitted (s := counted) _ hadm, State.approvalRaised_take]
    rfl
  have hreported : Reported counted raised := hraised ▸ State.overApproval_reported ..
  refine exec_authResult ht hs hl hcode (ho.imp_right .inl) hf hw ?_ ?_ hreported.queue
  · rw [hamt, State.takeResult, if_neg (by simp [hcancel]), if_pos hpos]
    refine (State.takeApproval_reported (s := counted) hmode hc hx).trans ?_
    rw [hraised, State.putTender_waits (by rfl) (by exact hreported.tenders ▸ hown) (by exact hreported.tenders ▸ hh) hbehind hready,
      approvalOutcome_eq]
    rw [State.putTender, State.over_tenders, hreported.tenders]
    rfl
  · exact tenderStanding_ready rfl rfl hown
end

section
/-! The id and the entry of the next tender (R45, R51). -/

namespace Sys2Proof.Machine

open Sys2Proof

/-- An id some tender of the pool or some entry of the closed list has (R45). -/
abbrev TenderPool.Uses (p : TenderPool) (id : Nat) : Prop := (∃ t ∈ p.pool, t.id = id) ∨ ∃ c ∈ p.closed, c.id = id

theorem TenderPool.idUsed_iff (p : TenderPool) (id : Nat) : p.idUsed id = true ↔ p.Uses id := by
  simp [TenderPool.idUsed, TenderPool.find, TenderPool.findClosed, TenderPool.Uses, List.find?_isSome]

/-- The candidates for the next id, in their order (R45). -/
def idCandidate (last k : Nat) : Nat := Nat.repeat idAfter (k + 1) last

theorem idCandidate_idAfter (last k : Nat) : idCandidate (idAfter last) k = idCandidate last (k + 1) := by
  induction k with
  | zero => rfl
  | succ k ih => exact congrArg idAfter ih

theorem idAfter_range (n : Nat) : 1 ≤ idAfter n ∧ idAfter n ≤ 65535 := by
  rw [idAfter]
  split <;> omega

theorem idCandidate_range (last k : Nat) : 1 ≤ idCandidate last k ∧ idCandidate last k ≤ 65535 := idAfter_range _

/-- Candidates count on from the first, 65,535 followed by 1. -/
theorem idCandidate_eq (last k : Nat) : idCandidate last k = (idAfter last - 1 + k) % 65535 + 1 := by
  induction k with
  | zero =>
    have := idAfter_range last
    show idAfter last = _
    rw [Nat.add_zero, Nat.mod_eq_of_lt (by omega)]
    omega
  | succ k ih =>
    show idAfter (idCandidate last k) = _
    rw [ih, idAfter]
    split <;> omega

/-- 65,535 candidates running are all different. -/
theorem idCandidate_injOn (last : Nat) : Set.InjOn (idCandidate last) (Set.Iio 65535) := by
  intro j hj k hk h
  rw [idCandidate_eq, idCandidate_eq] at h
  simp only [Set.mem_Iio] at hj hk
  omega

/-- The search stops at the first candidate that is not used, or at the last it may try (R45). -/
theorem nextIdWithin_spec (p : TenderPool) (n last : Nat) :
    ∃ k ≤ n, nextIdWithin n p last = idCandidate last k ∧ (∀ j < k, p.Uses (idCandidate last j)) ∧
      (k < n → ¬p.Uses (idCandidate last k)) := by
  induction n generalizing last with
  | zero => exact ⟨0, le_rfl, rfl, fun j hj => absurd hj (Nat.not_lt_zero j), fun h => absurd h (Nat.not_lt_zero 0)⟩
  | succ n ih =>
    rw [nextIdWithin]
    by_cases hused : p.Uses (idAfter last)
    · obtain ⟨k, hk, hid, hbefore, hfree⟩ := ih (idAfter last)
      rw [idCandidate_idAfter] at hid hfree
      rw [if_pos ((p.idUsed_iff _).mpr hused)]
      refine ⟨k + 1, Nat.succ_le_succ hk, hid, fun j hj => ?_, fun h => hfree (Nat.lt_of_succ_lt_succ h)⟩
      cases j with
      | zero => exact hused
      | succ j =>
        rw [← idCandidate_idAfter]
        exact hbefore j (Nat.lt_of_succ_lt_succ hj)
    · rw [if_neg (mt (p.idUsed_iff _).mp hused)]
      exact ⟨0, Nat.zero_le _, rfl, fun j hj => absurd hj (Nat.not_lt_zero j), fun _ => hused⟩

/-- More different numbers than a list is long do not all stand in it. -/
theorem exists_not_mem_of_length_lt {l : List Nat} {n : Nat} {f : Nat → Nat} (hf : Set.InjOn f (Set.Iio n)) (hl : l.length < n) :
    ∃ k < n, f k ∉ l := by
  have hcard : l.toFinset.card < ((Finset.range n).image f).card := by
    rw [Finset.card_image_of_injOn (by simpa using hf), Finset.card_range]
    exact l.toFinset_card_le.trans_lt hl
  obtain ⟨x, hx, hfree⟩ := Finset.exists_mem_notMem_of_card_lt_card hcard
  obtain ⟨k, hk, rfl⟩ := Finset.mem_image.mp hx
  exact ⟨k, Finset.mem_range.mp hk, mt List.mem_toFinset.mpr hfree⟩

/-- With the pool and the closed list within their capacities, one of 65 candidates is not used. -/
theorem TenderPool.exists_free_candidate {p : TenderPool} (hpool : p.pool.length ≤ 48) (hclosed : p.closed.length ≤ 16) :
    ∃ k < 65, ¬p.Uses (idCandidate p.lastId k) := by
  obtain ⟨k, hk, hfree⟩ := exists_not_mem_of_length_lt (l := p.pool.map Tender.id ++ p.closed.map ClosedTender.id)
    ((idCandidate_injOn p.lastId).mono (Set.Iio_subset_Iio (by decide : 65 ≤ 65535)))
    (by rw [List.length_append, List.length_map, List.length_map]; omega)
  exact ⟨k, hk, by simpa [TenderPool.Uses] using hfree⟩

/-- With the pool and the closed list within their capacities, the next id is the first candidate that is not used (R45). -/
theorem TenderPool.nextId_spec {p : TenderPool} (hpool : p.pool.length ≤ 48) (hclosed : p.closed.length ≤ 16) :
    ¬p.Uses p.nextId ∧ ∃ k ≤ 64, p.nextId = idCandidate p.lastId k ∧ ∀ j < k, p.Uses (idCandidate p.lastId j) := by
  obtain ⟨k, hk, hid, hbefore, hfree⟩ := nextIdWithin_spec p 64 p.lastId
  refine ⟨?_, k, hk, hid, hbefore⟩
  obtain ⟨j, hj, hunused⟩ := p.exists_free_candidate hpool hclosed
  rw [TenderPool.nextId, hid]
  have hkj : k ≤ j := Nat.le_of_not_lt fun h => hunused (hbefore j h)
  by_cases hlast : k < 64
  · exact hfree hlast
  · obtain rfl : k = j := by omega
    exact hunused

/-- With room in the pool, the entry of the next tender is the lowest free one (R51). -/
theorem TenderPool.freeEntry_spec {p : TenderPool} (hpool : p.pool.length < 48) :
    p.freeEntry < 48 ∧ (∀ t ∈ p.pool, t.entry ≠ p.freeEntry) ∧ ∀ e < p.freeEntry, ∃ t ∈ p.pool, t.entry = e := by
  obtain ⟨k, hk, hfree⟩ := exists_not_mem_of_length_lt (l := p.pool.map Tender.entry) (f := id) (n := 48)
    (Set.injOn_id _) (by rwa [List.length_map])
  have hsome : ((List.range 48).find? fun i => !p.pool.any fun t => t.entry == i).isSome = true :=
    List.find?_isSome.mpr ⟨k, List.mem_range.mpr hk, by simpa using hfree⟩
  obtain ⟨e, he⟩ := Option.isSome_iff_exists.mp hsome
  have hentry : p.freeEntry = e := by
    rw [TenderPool.freeEntry, show Config.maxTenders = 48 from rfl, he]
    rfl
  obtain ⟨hnone, hlt, hbefore⟩ := List.find?_range_eq_some.mp he
  rw [hentry]
  exact ⟨by simpa using hlt, by simpa using hnone, fun j hj => by simpa using hbefore j hj⟩

end Sys2Proof.Machine

open Sys2Proof Sys2Proof.Machine

/-- Settles O21: fewer ids and entries are used than are tried. -/
theorem tenderIdsAndEntries : Obligations.TenderIdsAndEntries := by
  intro p hpool hclosed used candidate
  obtain ⟨hunused, k, hk, hid, hbefore⟩ := p.nextId_spec hpool hclosed
  obtain ⟨h1, h2⟩ := hid ▸ idCandidate_range p.lastId k
  exact ⟨⟨h1, h2, hunused⟩, ⟨k, hk, hid, hbefore⟩, p.freeEntry_spec⟩
end

section
/-! The line reset, by RESET or by the RESET# pin (R149 to R151). -/

namespace Sys2Proof.Machine

open Sys2Proof

/-- The store at a line reset: the list emptied, the write in progress kept, and the oldest number of the free backlog handed over
unless its block's free is the write in progress (R85, R145, R150; log 26). -/
def SettingStore.lineReset (st : SettingStore) (backlog : List Nat) (next : Nat) : SettingStore :=
  match backlog, st.current with
  | [], _ => { st with waiting := [] }
  | n :: _, none =>
    { st with
      waiting := []
      current := some {
        request := .free n
        unit := match roomOf st.rooms n with
          | some room => .room room (.empty (some next))
          | none => .nothing } }
  | n :: _, some w => { st with waiting := if w.request.isFree then [] else [.free n] }

theorem State.beginWrite_busy {s : State} {w : WriteInProgress} (h : s.store.current = some w) : s.beginWrite = s := by
  simp only [State.beginWrite, h]

theorem State.beginWrite_empty {s : State} (h : s.store.waiting = []) : s.beginWrite = s := by
  unfold State.beginWrite
  split
  · rename_i hw
    rw [h] at hw
    cases hw
  · rfl

/-- What the store does at an emptied list (R85, R145). -/
theorem State.pumpStore_emptied {s : State} (hw : s.store.waiting = []) :
    s.pumpStore = s.setStore (s.store.lineReset s.uplink.backlog s.uplink.nextForward) := by
  have hkept : s = s.setStore { s.store with waiting := [] } := by
    rw [← hw]
    rfl
  rw [State.pumpStore, State.beginWrite_empty hw]
  unfold State.handFree SettingStore.lineReset
  cases hb : s.uplink.backlog with
  | nil => exact (State.beginWrite_empty hw).trans hkept
  | cons n more =>
    cases hc : s.store.current with
    | none =>
      have hroom : s.store.freeListed = false ∧ s.store.waiting.length < Config.storeListSize := by
        simp [SettingStore.freeListed, hw, hc, Config.storeListSize]
      simp only [if_pos hroom]
      simp only [State.beginWrite, State.setStore_store, hc, hw, List.nil_append, buildUnit]
      cases roomOf s.store.rooms n <;> rfl
    | some w =>
      have hroom : (s.store.freeListed = false ∧ s.store.waiting.length < Config.storeListSize) ↔ w.request.isFree = false := by
        simp [SettingStore.freeListed, hw, hc, Config.storeListSize]
      simp only [hroom]
      cases hfree : w.request.isFree with
      | true =>
        rw [← hc]
        exact (State.beginWrite_empty hw).trans hkept
      | false =>
        rw [if_pos rfl, hw, ← hc]
        exact State.beginWrite_busy (s := s.setStore { s.store with waiting := [.free n] }) hc

/-- Every block after a line reset (R1, R43, R45, R87, R93, R133, R150, R152, R173, R183). -/
theorem State.lineReset_eq (s : State) (cause : ResetCause) :
    s.lineReset cause = { s with
      line := s.line.lineReset s.store.owesReply
      checks := []
      tenders := { pool := [], closed := [], lastId := s.tenders.lastId }
      uplink := s.uplink.lineReset
      radio := { Radio.start with strobes := s.radio.strobes }
      journal := s.journal.lineReset
      run := { RunControl.start with lastReset := some cause }
      store := s.store.lineReset s.uplink.backlog s.uplink.nextForward
      faults := .start } :=
  State.pumpStore_emptied rfl

theorem State.edgeNext_iff (s : State) : s.edgeNext = true ↔ s.pinLow = false ∧ s.pending.head? = some .resetPinFall := by
  simp [State.edgeNext]

end Sys2Proof.Machine

open Sys2Proof Sys2Proof.Machine

/-- Settles O57: both resets are the line reset of every block, and what each does to the pin and the RESTART record. -/
theorem lineResets : Obligations.LineResets := by
  intro s tag storing owed reset restart byCommand byPin edgeNext
  have hreset : ∀ cause, s.lineReset cause = reset cause := s.lineReset_eq
  have hcommand : s.commandReset tag = byCommand := by
    rw [State.commandReset, hreset]
    rfl
  refine ⟨fun ht => ?_, fun hlow => ?_, fun hlow hlive => ?_, fun hlow hlive => ?_, fun hh => ?_, ?_, fun c t f hh => ?_⟩
  · rw [exec_taken (c := .reset) rfl ht rfl rfl, runHost]
    refine ⟨fun hedge => ?_, fun hedge => ?_⟩
    · rw [resetCommand_alone _ (Bool.eq_false_iff.mpr (mt s.edgeNext_iff.mp hedge)), hcommand]
    · rw [resetCommand_edge _ (s.edgeNext_iff.mpr hedge), hcommand]
      split
      · exact .inr rfl
      · exact .inl rfl
  · exact execResetPinFall_low hlow
  · show execResetPinFall s = _
    rw [execResetPinFall, if_neg (by simp [hlow]), if_pos hlive, State.lineReset_eq]
    rfl
  · show execResetPinFall s = _
    rw [execResetPinFall, if_neg (by simp [hlow]), if_neg (by simp [hlive])]
  · show execResetPinRise s = _
    rw [execResetPinRise, hh]
  · show _ → execResetPinRise s = _
    rintro (hh | hh) <;> rw [execResetPinRise, hh] <;> rfl
  · show execResetPinRise s = _
    rw [execResetPinRise, hh]
    rfl
end

section
/-! Forwarding (R82): which entries it chooses, what one step and the whole test leave, and what it leaves alone. -/

namespace Sys2Proof.Machine

open Sys2Proof

/-! ### The entries forwarding chooses -/

/-- The oldest UNSENT entries, as many as the window has room for (R82). -/
def chosenEntries (window : Nat) (queue : List ForwardEntry) : List ForwardEntry :=
  (queue.filter ForwardEntry.isUnsent).take (window - (queue.filter ForwardEntry.isSent).length)

/-- A queue with some of its entries made SENT. -/
def sentEntries (queue chosen : List ForwardEntry) : List ForwardEntry :=
  queue.map fun e => if e ∈ chosen then { e with state := .sent } else e

@[simp] theorem ForwardEntry.isUnsent_iff (e : ForwardEntry) : e.isUnsent = true ↔ e.state = .unsent := by
  simp [ForwardEntry.isUnsent]

@[simp] theorem ForwardEntry.isUnsent_false (e : ForwardEntry) : e.isUnsent = false ↔ e.state ≠ .unsent := by
  simp [ForwardEntry.isUnsent]

@[simp] theorem ForwardEntry.isSent_iff (e : ForwardEntry) : e.isSent = true ↔ e.state = .sent := by
  simp [ForwardEntry.isSent]

theorem sentEntries_nil (queue : List ForwardEntry) : sentEntries queue [] = queue := by simp [sentEntries]

/-- Nothing is chosen where nothing is UNSENT or the window is full. -/
theorem chosenEntries_eq_nil {window : Nat} {queue : List ForwardEntry} :
    chosenEntries window queue = [] ↔
      (∀ e ∈ queue, e.state ≠ .unsent) ∨ window ≤ (queue.filter ForwardEntry.isSent).length := by
  simp [chosenEntries, or_comm, Nat.sub_eq_zero_iff_le]

/-- Where something is chosen, the window has room, and the queue splits at its oldest UNSENT entry. -/
theorem chosenEntries_ne_nil {window : Nat} {queue : List ForwardEntry} (h : chosenEntries window queue ≠ []) :
    (queue.filter ForwardEntry.isSent).length < window ∧
      ∃ (pre post : List ForwardEntry) (e : ForwardEntry),
        queue = pre ++ e :: post ∧ (∀ x ∈ pre, x.state ≠ .unsent) ∧ e.state = .unsent := by
  rw [ne_eq, chosenEntries_eq_nil, not_or, not_le] at h
  obtain ⟨hsome, hroom⟩ := h
  refine ⟨hroom, ?_⟩
  obtain ⟨e, he⟩ : ∃ e, queue.find? ForwardEntry.isUnsent = some e :=
    Option.isSome_iff_exists.mp (by simpa [List.find?_isSome] using hsome)
  obtain ⟨hunsent, pre, post, rfl, hpre⟩ := List.find?_eq_some_iff_append.mp he
  exact ⟨pre, post, e, rfl, fun x hx => by simpa using hpre x hx, by simpa using hunsent⟩

/-- The entry of a number changes state in its place, numbers all different. -/
theorem markEntry_append {pre post : List ForwardEntry} {e : ForwardEntry} (state : ForwardState)
    (hn : ((pre ++ e :: post).map ForwardEntry.number).Nodup) :
    markEntry (pre ++ e :: post) e.number state = pre ++ { e with state := state } :: post := by
  simp only [List.map_append, List.map_cons, List.nodup_append, List.nodup_cons, List.mem_map, List.mem_cons] at hn
  obtain ⟨-, ⟨hpost, -⟩, hpre⟩ := hn
  have keep : ∀ l : List ForwardEntry, (∀ x ∈ l, x.number ≠ e.number) → markEntry l e.number state = l := by
    intro l hl
    exact (List.map_congr_left fun x hx => if_neg (hl x hx)).trans (List.map_id l)
  have hsplit : markEntry (pre ++ e :: post) e.number state =
      markEntry pre e.number state ++ { e with state := state } :: markEntry post e.number state := by
    simp [markEntry]
  rw [hsplit, keep pre fun x hx => hpre x.number ⟨x, hx, rfl⟩ e.number (.inl rfl), keep post fun x hx h => hpost ⟨x, hx, h⟩]

section
variable {window : Nat} {pre post : List ForwardEntry} {e : ForwardEntry}

/-- The oldest UNSENT entry is chosen first, and the others as if it were SENT. -/
theorem chosenEntries_cons (hroom : ((pre ++ e :: post).filter ForwardEntry.isSent).length < window)
    (hpre : ∀ x ∈ pre, x.state ≠ .unsent) (he : e.state = .unsent) :
    chosenEntries window (pre ++ e :: post) = e :: chosenEntries window (pre ++ { e with state := .sent } :: post) := by
  have hnone : pre.filter ForwardEntry.isUnsent = [] := by simpa using hpre
  have hunsent : e.isUnsent = true := by simpa using he
  have hsent : e.isSent = false := by simp [ForwardEntry.isSent, he]
  have hmarked : ({ e with state := .sent } : ForwardEntry).isSent = true := rfl
  have hmarked' : ({ e with state := .sent } : ForwardEntry).isUnsent = false := rfl
  simp only [List.filter_append, List.filter_cons, hsent, Bool.false_eq_true, if_false, List.length_append] at hroom
  simp only [chosenEntries, List.filter_append, List.filter_cons, hnone, hunsent, hsent, hmarked, hmarked', if_true,
    Bool.false_eq_true, if_false, List.nil_append, List.length_append, List.length_cons]
  obtain ⟨k, hk⟩ : ∃ k, window - ((pre.filter ForwardEntry.isSent).length + (post.filter ForwardEntry.isSent).length) = k + 1 :=
    ⟨_, (Nat.succ_pred_eq_of_pos (by omega)).symm⟩
  rw [hk, List.take_succ_cons]
  congr 2
  omega

/-- Making the oldest UNSENT entry SENT first and the other chosen ones after it is making them all SENT. -/
theorem sentEntries_cons (chosen : List ForwardEntry) (hn : ((pre ++ e :: post).map ForwardEntry.number).Nodup) :
    sentEntries (pre ++ { e with state := .sent } :: post) chosen = sentEntries (pre ++ e :: post) (e :: chosen) := by
  simp only [List.map_append, List.map_cons, List.nodup_append, List.nodup_cons, List.mem_map, List.mem_cons] at hn
  obtain ⟨-, ⟨hpost, -⟩, hpre⟩ := hn
  have other : ∀ l : List ForwardEntry, (∀ x ∈ l, x ≠ e) → sentEntries l chosen = sentEntries l (e :: chosen) := by
    intro l hl
    refine List.map_congr_left fun x hx => ?_
    simp [hl x hx]
  have hsplit : ∀ (f : ForwardEntry) (l : List ForwardEntry), sentEntries (pre ++ f :: post) l =
      sentEntries pre l ++ (if f ∈ l then { f with state := .sent } else f) :: sentEntries post l := fun f l => by
    simp [sentEntries]
  rw [hsplit, hsplit, other pre fun x hx h => hpre x.number ⟨x, hx, rfl⟩ e.number (.inl rfl) (congrArg _ h),
    other post fun x hx h => hpost ⟨x, hx, congrArg _ h⟩, if_pos (List.mem_cons_self ..), ite_self]

end

/-! ### One step of forwarding -/

/-- One entry forwarded: its FORWARD notice offered, and its state SENT. -/
def State.forwardOne (s : State) (e : ForwardEntry) : State :=
  (s.offer (forwardNotice e)).setUplink { s.uplink with queue := markEntry s.uplink.queue e.number .sent }

/-- The states of the entries do not tell these two queues apart. -/
def sameEntries (a b : List ForwardEntry) : Prop :=
  a.map (fun e : ForwardEntry => { e with state := .unsent }) = b.map fun e : ForwardEntry => { e with state := .unsent }

theorem sameEntries_markEntry (queue : List ForwardEntry) (n : Nat) (state : ForwardState) :
    sameEntries (markEntry queue n state) queue := by
  simp only [sameEntries, markEntry, List.map_map]
  refine List.map_congr_left fun e _ => ?_
  simp only [Function.comp]
  split <;> rfl

/-- The change a test of forwarding can make from `s` to `t`. -/
structure Forwarded (s t : State) : Prop where
  same : t = { s with
    uplink := { s.uplink with queue := t.uplink.queue }, line := { s.line with queue := t.line.queue }, faults := t.faults, run := t.run
    journal := t.journal }
  entries : sameEntries t.uplink.queue s.uplink.queue
  queue : s.line.queue <+: t.line.queue

theorem Forwarded.refl (s : State) : Forwarded s s := ⟨rfl, rfl, List.prefix_rfl⟩

theorem Forwarded.trans {s t u : State} (h : Forwarded s t) (h' : Forwarded t u) : Forwarded s u := by
  refine ⟨?_, h'.entries.trans h.entries, h.queue.trans h'.queue⟩
  have e := h'.same
  rw [h.same] at e
  exact e

theorem Forwarded.uplink {s t : State} (h : Forwarded s t) : t.uplink = { s.uplink with queue := t.uplink.queue } := by
  have e := congrArg State.uplink h.same; exact e

theorem Forwarded.line {s t : State} (h : Forwarded s t) : t.line = { s.line with queue := t.line.queue } := by
  have e := congrArg State.line h.same; exact e
theorem Forwarded.store {s t : State} (h : Forwarded s t) : t.store = s.store := by
  have e := congrArg State.store h.same; exact e

theorem State.forwardOne_forwarded (s : State) (e : ForwardEntry) : Forwarded s (s.forwardOne e) := by
  have h := offer_reported s (forwardNotice e)
  refine ⟨?_, sameEntries_markEntry .., h.queue⟩
  have hsame := h.same
  rw [State.forwardOne]
  generalize s.offer (forwardNotice e) = u at hsame
  rw [hsame]
  rfl

/-- A step of forwarding that chooses nothing ends it. -/
theorem forwardWithin_idle {s : State} (h : chosenEntries s.store.settings.forwardWindow s.uplink.queue = []) (k : Nat) :
    forwardWithin k s = s := by
  cases k with
  | zero => rfl
  | succ k =>
    rw [forwardWithin]
    split
    · rename_i hup
      have hnone : s.uplink.queue.find? ForwardEntry.isUnsent = none := by
        simpa using (chosenEntries_eq_nil.mp h).resolve_right (Nat.not_le.mpr hup.2)
      rw [hnone]
    · rfl

/-- A step of forwarding that chooses an entry sends the oldest UNSENT one. -/
theorem forwardWithin_step {s : State} {pre post : List ForwardEntry} {e : ForwardEntry} (hup : s.uplink.state = .up)
    (hroom : (s.uplink.queue.filter ForwardEntry.isSent).length < s.store.settings.forwardWindow)
    (hq : s.uplink.queue = pre ++ e :: post) (hpre : ∀ x ∈ pre, x.state ≠ .unsent) (he : e.state = .unsent) (k : Nat) :
    forwardWithin (k + 1) s = forwardWithin k (s.forwardOne e) := by
  have hfind : s.uplink.queue.find? ForwardEntry.isUnsent = some e :=
    List.find?_eq_some_iff_append.mpr ⟨by simpa using he, pre, post, hq, fun x hx => by simpa using hpre x hx⟩
  rw [forwardWithin, if_pos ⟨hup, hroom⟩, hfind]
  simp only [(offer_reported s (forwardNotice e)).uplink]
  rfl

/-- A test of forwarding changes the states of entries, and nothing else but what its notices bring. -/
theorem forwardWithin_forwarded (k : Nat) (s : State) : Forwarded s (forwardWithin k s) := by
  induction k generalizing s with
  | zero => exact Forwarded.refl s
  | succ k ih =>
    by_cases h : s.uplink.state = .up ∧ chosenEntries s.store.settings.forwardWindow s.uplink.queue ≠ []
    · obtain ⟨hup, hc⟩ := h
      obtain ⟨hroom, pre, post, e, hq, hpre, he⟩ := chosenEntries_ne_nil hc
      rw [forwardWithin_step hup hroom hq hpre he]
      exact (s.forwardOne_forwarded e).trans (ih _)
    · have hstop : forwardWithin (k + 1) s = s := by
        by_cases hup : s.uplink.state = .up
        · exact forwardWithin_idle (not_not.mp fun hc => h ⟨hup, hc⟩) _
        · rw [forwardWithin, if_neg fun hc => hup hc.1]
      rw [hstop]
      exact Forwarded.refl s

theorem State.forwardEntries_forwarded (s : State) : Forwarded s s.forwardEntries := forwardWithin_forwarded _ s

/-! ### The whole test -/

theorem State.forwardEntries_down {s : State} (h : s.uplink.state = .down) : s.forwardEntries = s := by
  unfold State.forwardEntries
  cases s.uplink.queue.length with
  | zero => rfl
  | succ k => rw [forwardWithin, if_neg fun hc => by simp [h] at hc]

theorem State.forwardEntries_quiet {s : State} (h : ∀ e ∈ s.uplink.queue, e.state ≠ .unsent) : s.forwardEntries = s :=
  forwardWithin_idle (chosenEntries_eq_nil.mpr (.inl h)) _

/-- Marking an UNSENT entry SENT leaves fewer UNSENT. -/
theorem unsent_markEntry_lt {queue : List ForwardEntry} {e : ForwardEntry} (hm : e ∈ queue) (he : e.state = .unsent) :
    ((markEntry queue e.number .sent).filter ForwardEntry.isUnsent).length < (queue.filter ForwardEntry.isUnsent).length := by
  have hcomp : (markEntry queue e.number .sent).filter ForwardEntry.isUnsent =
      (queue.filter ForwardEntry.isUnsent).filter fun x => x.number != e.number := by
    rw [markEntry, List.filter_map, List.filter_filter]
    have hp : ForwardEntry.isUnsent ∘ (fun x : ForwardEntry => if x.number = e.number then { x with state := .sent } else x) =
        fun x => x.number != e.number && x.isUnsent := by
      funext x
      by_cases hx : x.number = e.number <;> simp [hx, ForwardEntry.isUnsent]
    rw [hp]
    refine (List.map_congr_left fun x hx => ?_).trans (List.map_id _)
    rw [List.mem_filter, Bool.and_eq_true, bne_iff_ne] at hx
    exact if_neg hx.2.1
  rw [hcomp]
  exact List.length_filter_lt_length_iff_exists.mpr ⟨e, by simp [hm, he], by simp⟩

/-- With a step for each UNSENT entry, a test of an UP uplink leaves nothing to choose. -/
theorem forwardWithin_leaves_nothing {k : Nat} {s : State} (hup : s.uplink.state = .up)
    (hk : (s.uplink.queue.filter ForwardEntry.isUnsent).length ≤ k) :
    chosenEntries s.store.settings.forwardWindow (forwardWithin k s).uplink.queue = [] := by
  induction k generalizing s with
  | zero =>
    rw [chosenEntries, forwardWithin, List.length_eq_zero_iff.mp (Nat.le_zero.mp hk), List.take_nil]
  | succ k ih =>
    by_cases hc : chosenEntries s.store.settings.forwardWindow s.uplink.queue = []
    · rw [forwardWithin_idle hc, hc]
    · obtain ⟨hroom, pre, post, e, hq, hpre, he⟩ := chosenEntries_ne_nil hc
      rw [forwardWithin_step hup hroom hq hpre he]
      have hstore := (s.forwardOne_forwarded e).store
      rw [← hstore]
      have hless := unsent_markEntry_lt (queue := s.uplink.queue) (e := e) (by simp [hq]) he
      exact ih (s := s.forwardOne e) hup (by
        show ((markEntry s.uplink.queue e.number .sent).filter ForwardEntry.isUnsent).length ≤ k
        omega)

/-- A test of an UP uplink, numbers all different: the chosen entries are SENT, and where the queue admits their notices nothing else
changes (R82). -/
theorem forwardWithin_chosen {k : Nat} {s : State} (hup : s.uplink.state = .up)
    (hn : (s.uplink.queue.map ForwardEntry.number).Nodup)
    (hk : (chosenEntries s.store.settings.forwardWindow s.uplink.queue).length ≤ k) :
    let chosen := chosenEntries s.store.settings.forwardWindow s.uplink.queue
    let queue := sentEntries s.uplink.queue chosen
    (forwardWithin k s).uplink.queue = queue ∧
    (s.line.places + chosen.length ≤ 56 → forwardWithin k s = { s with
      uplink := { s.uplink with queue := queue }, line := { s.line with queue := s.line.queue ++ chosen.map forwardNotice } }) := by
  intro chosen queue
  induction k generalizing s with
  | zero =>
    have hnil : chosen = [] := List.length_eq_zero_iff.mp (Nat.le_zero.mp hk)
    simp [queue, hnil, sentEntries_nil, forwardWithin]
  | succ k ih =>
    by_cases hc : chosen = []
    · rw [forwardWithin_idle hc]
      simp [queue, hc, sentEntries_nil]
    · obtain ⟨hroom, pre, post, e, hq, hpre, he⟩ := chosenEntries_ne_nil hc
      have hmark : (s.forwardOne e).uplink.queue = pre ++ { e with state := .sent } :: post := by
        show markEntry s.uplink.queue e.number .sent = _
        rw [hq]
        exact markEntry_append _ (hq ▸ hn)
      have hstore := (s.forwardOne_forwarded e).store
      have hcons : chosen = e :: chosenEntries (s.forwardOne e).store.settings.forwardWindow (s.forwardOne e).uplink.queue := by
        rw [hstore, hmark]
        show chosenEntries s.store.settings.forwardWindow s.uplink.queue = _
        rw [hq]
        exact chosenEntries_cons (hq ▸ hroom) hpre he
      have hqueue : queue = sentEntries (s.forwardOne e).uplink.queue
          (chosenEntries (s.forwardOne e).store.settings.forwardWindow (s.forwardOne e).uplink.queue) := by
        show sentEntries s.uplink.queue chosen = _
        rw [hcons, hmark, hq]
        exact (sentEntries_cons _ (hq ▸ hn)).symm
      have hnodup : ((s.forwardOne e).uplink.queue.map ForwardEntry.number).Nodup := by
        rw [hmark]
        rw [hq] at hn
        simpa using hn
      have hlength : chosen.length =
          (chosenEntries (s.forwardOne e).store.settings.forwardWindow (s.forwardOne e).uplink.queue).length + 1 := by
        rw [hcons, List.length_cons]
      have hk' : chosen.length ≤ k + 1 := hk
      obtain ⟨hrest, hadmitted⟩ := ih (s := s.forwardOne e) hup hnodup (by omega)
      rw [forwardWithin_step hup hroom hq hpre he, hqueue]
      refine ⟨hrest, fun hp => ?_⟩
      have hoffer : s.offer (forwardNotice e) = s.enqueue (forwardNotice e) := State.offer_room s _ (by omega)
      have hone : s.forwardOne e = { s with
          uplink := { s.uplink with queue := (s.forwardOne e).uplink.queue }
          line := { s.line with queue := s.line.queue ++ [forwardNotice e] } } := by
        simp only [State.forwardOne, hoffer]
        rfl
      have hplaces : (s.forwardOne e).line.places = s.line.places + 1 := by
        rw [hone]
        simp only [ServerLine.places, List.length_append, List.length_singleton]
        omega
      rw [hadmitted (by omega), hcons]
      generalize chosenEntries (s.forwardOne e).store.settings.forwardWindow (s.forwardOne e).uplink.queue = rest
      generalize sentEntries (s.forwardOne e).uplink.queue rest = after
      rw [hone]
      simp

end Sys2Proof.Machine
end

section
/-! UPLINK STATE and FORWARD RESTART, each with its test of forwarding (R74, R82, R86). -/

namespace Sys2Proof.Machine

open Sys2Proof

/-- A command whose owner's work ends with a test of forwarding: the reply stands among its FORWARD notices (R82; log 5). -/
theorem exec_forwards {s t : State} {i : Instr} {tag : U8} {r : Reply} (c : HostCommand) (d : State → State × Reply)
    (hi : hostRowOf i = some (tag, c)) (ht : s.takes tag) (hw : c.wf = true) (hb : c.badCode = false)
    (hd : runHost ((c.frame tag).take 8) tag c s = s.answer c.kind tag d) (hr : d s.owe = (t.forwardEntries, r))
    (hq : s.line.queue <+: t.line.queue) :
    ∃ u : State, exec i s = .next u ∧ answeredFrom s t.forwardEntries u (r.frame c.kind tag) :=
  ⟨_, by rw [exec_taken hi ht hw hb, hd], State.answer_answeredFrom hr (hq.trans t.forwardEntries_forwarded.queue)⟩

/-! ### FORWARD RESTART -/

/-- Every SENT entry made UNSENT (R86). -/
def Uplink.restarted (u : Uplink) : Uplink :=
  { u with queue := u.queue.map fun e => if e.state = .sent then { e with state := .unsent } else e }

theorem forwardRestart_eq (s : State) :
    forwardRestart s = ((s.setUplink s.uplink.restarted).forwardEntries,
      .accepted (le 4 (s.uplink.queue.filter ForwardEntry.isSent).length)) := by
  simp only [forwardRestart, Uplink.restarted, ForwardEntry.isSent_iff]

/-! ### UPLINK STATE -/

/-- The head of a reply to UPLINK STATE (R74). -/
theorem Uplink.head_eq {u : Uplink} {a : UplinkState} {b : SetBy} {n : Nat} (ha : u.state = a) (hb : u.setBy = b) (hn : u.count = n) :
    u.head = [a.code, b.code] ++ le 4 n := by
  rw [Uplink.head, ha, hb, hn]

section
variable {s : State}

theorem uplinkState_range {state : U8} (h : 1 < state.toNat) : uplinkState state s = s.refuse .range := by
  rw [uplinkState, if_neg (by rintro rfl; exact absurd h (by decide)), if_neg (by rintro rfl; exact absurd h (by decide))]

/-- DOWN from UP: the uplink set DOWN by the host, with its record (R73, R74). -/
theorem uplinkState_down_from_up (h : s.uplink.state = .up) : uplinkState 0 s =
    ({ s with
      uplink := { s.uplink with state := .down, setBy := .host }
      journal := s.journal.append s.run.clock { kind := .uplinkChanged, amount := s.uplink.count, flags := 2 } },
     .accepted ([0, 1] ++ le 4 s.uplink.count)) := by
  rw [uplinkState, if_neg (by decide), if_pos rfl]
  simp only [if_pos h]
  rfl

theorem uplinkState_down_from_down (h : s.uplink.state = .down) : uplinkState 0 s =
    ({ s with uplink := { s.uplink with setBy := .host } }, .accepted ([0, 1] ++ le 4 s.uplink.count)) := by
  rw [uplinkState, if_neg (by decide), if_pos rfl]
  simp only [if_neg (show ¬s.uplink.state = .up by simp [h])]
  exact Prod.ext rfl (congrArg Reply.accepted (Uplink.head_eq (a := .down) (b := .host) (by exact h) rfl rfl))

theorem uplinkState_up_from_up (h : s.uplink.state = .up) : uplinkState 1 s =
    ({ s with uplink := { s.uplink with setBy := .host, count := 0 } }, .accepted [1, 1, 0, 0, 0, 0]) := by
  rw [uplinkState, if_pos rfl]
  simp only [if_neg (show ¬s.uplink.state = .down by simp [h])]
  exact Prod.ext rfl (congrArg Reply.accepted (Uplink.head_eq (a := .up) (b := .host) (n := 0) (by exact h) rfl rfl))

/-- The uplink set UP by the host, with its record (R73, R74). -/
def State.setUp (s : State) : State :=
  { s with
    uplink := { s.uplink with state := .up, setBy := .host, count := 0 }
    journal := s.journal.append s.run.clock { kind := .uplinkChanged, amount := s.uplink.count, flags := 3 } }

/-- UP from DOWN: the uplink set UP, then forwarding tested; the reply carries the uplink as it was set (R74, R82). -/
theorem uplinkState_up_from_down (h : s.uplink.state = .down) :
    uplinkState 1 s = (s.setUp.forwardEntries, .accepted [1, 1, 0, 0, 0, 0]) := by
  have hforward := s.setUp.forwardEntries_forwarded.uplink
  have hset : (s.setUplink { s.uplink with count := 0, setBy := .host }).changeUplink .up .host s.uplink.count = s.setUp := rfl
  rw [uplinkState, if_pos rfl]
  simp only [if_pos h, hset]
  rw [Uplink.head_eq (a := .up) (b := .host) (n := 0) (congrArg Uplink.state hforward) (congrArg Uplink.setBy hforward)
    (congrArg Uplink.count hforward)]
  rfl

end

end Sys2Proof.Machine

open Sys2Proof Sys2Proof.Machine

/-- Settles O32: the four pairs of states, and the test of forwarding at UP from DOWN. -/
theorem uplinkStateSet : Obligations.UplinkStateSet := by
  intro s tag state ht u
  have hup : u.state = .down → uplinkState 1 s.owe = (s.setUp.owe.forwardEntries, .accepted [1, 1, 0, 0, 0, 0]) :=
    uplinkState_up_from_down (s := s.owe)
  have hto : ∀ {t : State} {r : Reply} (v : U8), uplinkState v s.owe = (t.owe, r) → t.line = s.line →
      exec (.uplinkState tag v) s = .next (t.replied 0x14 tag r) :=
    fun v => exec_answered_changed (.uplinkState v) (uplinkState v) rfl ht rfl rfl rfl
  refine ⟨fun h => ?_, fun h => ?_, fun h => ?_, fun h => ?_, fun h hquiet => ?_, fun h => ?_⟩
  · exact hto state (uplinkState_range h) rfl
  · exact hto 0 (uplinkState_down_from_up (s := s.owe) h) rfl
  · exact hto 0 (uplinkState_down_from_down (s := s.owe) h) rfl
  · exact hto 1 (uplinkState_up_from_up (s := s.owe) h) rfl
  · have hr := hup h
    rw [State.forwardEntries_quiet (by exact hquiet)] at hr
    exact hto 1 hr rfl
  · exact exec_forwards (.uplinkState 1) (uplinkState 1) rfl ht rfl rfl rfl (hup h) List.prefix_rfl

/-- Settles O34: the command, and the test of forwarding as a choice of the oldest UNSENT entries. -/
theorem forwardRestarts : Obligations.ForwardRestarts := by
  refine ⟨fun s tag ht => ?_, fun s => State.forwardEntries_down, fun s hup => ?_⟩
  · have hr := forwardRestart_eq s.owe
    refine ⟨exec_forwards .forwardRestart forwardRestart rfl ht rfl rfl rfl hr List.prefix_rfl, fun hdown => ?_⟩
    rw [State.forwardEntries_down (by exact hdown)] at hr
    exact exec_answered_changed .forwardRestart forwardRestart rfl ht rfl rfl rfl hr rfl
  · have hf := s.forwardEntries_forwarded
    refine ⟨?_, hf.entries, hf.same.trans (by rw [← hf.line]), fun hn => ?_⟩
    · exact chosenEntries_eq_nil.mp (forwardWithin_leaves_nothing hup (List.length_filter_le ..))
    · exact forwardWithin_chosen hup hn
        ((List.length_take_le' ..).trans (List.length_filter_le ..))
end

section
/-! The ends of a forward free and of a setting write (R85, R91, R116, R145, R148). -/

namespace Sys2Proof.Machine

open Sys2Proof

/-! ### STORE WRITE FAIL -/

/-- STORE WRITE FAIL at a failed write, its notice admitted (R145, R153). -/
theorem State.storeFault_faulted {s : State} (h : s.admits .storeWriteFail) : s.storeFault = s.faulted .storeWriteFail .store [] :=
  State.raise_faulted .store [] h

/-! ### The end of a forward free -/

section
variable {s : State} {n : Nat} {unit : StoreUnit}

theorem exec_forwardFreeComplete (hp : s.powered = true) (hw : s.store.current = some { request := .free n, unit := unit }) :
    exec .forwardFreeComplete s = .next ((s.writeEnds { request := .free n, unit := unit }).setUplink
      { s.uplink with backlog := s.uplink.backlog.erase n }).pumpStore := by
  show execForwardFreeComplete s = _
  simp only [execForwardFreeComplete, hp, hw]

theorem exec_forwardFreeFail (hp : s.powered = true) (hw : s.store.current = some { request := .free n, unit := unit }) :
    exec .forwardFreeFail s = .next s.writeLost.storeFault.pumpStore := by
  show execForwardFreeFail s = _
  simp only [execForwardFreeFail, hp, hw]

end

/-! ### The end of a setting write -/

/-- The store once a setting write has ended, with what its copy then holds: the copy as it was written, or none for a damaged one
(R145). -/
def SettingStore.copyEnded (st : SettingStore) (first : Bool) (copy : Option SettingsCopy) : SettingStore :=
  { st with current := none, first := if first then copy else st.first, second := if first then st.second else copy }

section
variable {s : State} {request : StoreRequest} {first : Bool} {copy : SettingsCopy}

theorem State.writeEnds_copy :
    s.writeEnds { request := request, unit := .settings first copy } = { s with store := s.store.copyEnded first (some copy) } := by
  cases first <;> rfl

theorem State.writeDamages_copy :
    s.writeDamages { request := request, unit := .settings first copy } = { s with store := s.store.copyEnded first none } := by
  cases first <;> rfl

end

/-- The reply of an event that queued nothing is last in the queue (R171). -/
theorem State.queueReply_last {s : State} {before : Nat} (f : Frame) (h : s.line.queue.length ≤ before) :
    s.queueReply before f = s.setLine { s.line with owed := s.line.owed - 1, queue := s.line.queue ++ [f] } := by
  rw [State.queueReply, if_pos h]

theorem State.queueReply_store (s : State) (before : Nat) (f : Frame) : (s.queueReply before f).store = s.store := by
  unfold State.queueReply
  split <;> rfl

section
variable {s : State} {tag : U8} {n v named : Nat} {unit : StoreUnit}

theorem exec_settingWriteComplete (hp : s.powered = true)
    (hw : s.store.current = some { request := .setting tag n v named, unit := unit }) :
    let ended := (s.writeEnds { request := .setting tag n v named, unit := unit }).forceSetting n v
    exec .settingWriteComplete s = .next (ended.queueReply s.line.queue.length
      ((settingDone n (ended.store.settings.get n) named).frame 0x29 tag)).pumpStore := by
  show execSettingWriteComplete s = _
  simp only [execSettingWriteComplete, hp, hw]

theorem exec_settingWriteFail (hp : s.powered = true)
    (hw : s.store.current = some { request := .setting tag n v named, unit := unit }) :
    exec .settingWriteFail s = .next ((s.writeDamages { request := .setting tag n v named, unit := unit }).storeFault.queueReply
      s.line.queue.length ((settingFailed n (s.store.settings.get n)).frame 0x29 tag)).pumpStore := by
  show execSettingWriteFail s = _
  simp only [execSettingWriteFail, hp, hw]

theorem exec_settingWriteComplete_powerOn (hp : s.powered = true)
    (hw : s.store.current = some { request := .powerOnSettings, unit := unit }) :
    exec .settingWriteComplete s = .next (s.writeEnds { request := .powerOnSettings, unit := unit }).pumpStore := by
  show execSettingWriteComplete s = _
  simp only [execSettingWriteComplete, hp, hw]

theorem exec_settingWriteFail_powerOn (hp : s.powered = true)
    (hw : s.store.current = some { request := .powerOnSettings, unit := unit }) :
    exec .settingWriteFail s = .next (s.writeDamages { request := .powerOnSettings, unit := unit }).startWriteFault.pumpStore := by
  show execSettingWriteFail s = _
  simp only [execSettingWriteFail, hp, hw]

end

/-! ### A line turned off (R91) -/

/-- The strobes after a line is turned off: silent on a line that is off (R91; log 28). -/
def Radio.strobesOn (r : Radio) (st : Settings) : Vector Bool 4 :=
  #v[r.strobes[0] && st.lineEnable0, r.strobes[1] && st.lineEnable1, r.strobes[2] && st.lineEnable2, r.strobes[3] && st.lineEnable3]

/-- Turning lines off slot by slot changes the slots alone, each slot of such a line once. -/
theorem lineOffFold_spec (off : Slot → Bool) (l : List Slot) (hl : l.Nodup) (r : Radio) :
    let t := l.foldl (fun (r : Radio) i => if off i then { r with slots := r.slots.set i r.slots[i].lineOff } else r) r
    t = { r with slots := t.slots } ∧
      ∀ j : Slot, t.slots[j] = if j ∈ l ∧ off j = true then r.slots[j].lineOff else r.slots[j] := by
  induction l generalizing r with
  | nil => simp
  | cons i l ih =>
    obtain ⟨hi, hl'⟩ := List.nodup_cons.mp hl
    obtain ⟨hsame, hslots⟩ := ih hl' (if off i then { r with slots := r.slots.set i r.slots[i].lineOff } else r)
    rw [List.foldl_cons]
    refine ⟨?_, fun j => ?_⟩
    · rw [hsame]
      split <;> rfl
    · rw [hslots j]
      by_cases hij : j = i
      · subst hij
        by_cases ho : off j = true <;> simp [hi, ho]
      · have hne : i.val ≠ j.val := fun h => hij (Fin.ext h.symm)
        by_cases ho : off i = true <;> simp [hij, ho, Vector.getElem_set_ne, hne]

/-- The radio side after a settings write: strobes, and the slots of a line turned off (R91). -/
theorem Radio.linesOff_spec (r : Radio) (before after : Settings) :
    r.linesOff before after = { r with slots := (r.linesOff before after).slots, strobes := r.strobesOn after } ∧
      ∀ j : Slot, (r.linesOff before after).slots[j] =
        if before.lineEnabled (j.val / 16) = true ∧ after.lineEnabled (j.val / 16) = false then r.slots[j].lineOff
        else r.slots[j] := by
  have hstrobes : Vector.zipWith (fun x y => x && y) r.strobes after.strobes = r.strobesOn after := by
    ext i hi
    obtain rfl | rfl | rfl | rfl : i = 0 ∨ i = 1 ∨ i = 2 ∨ i = 3 := by omega
    all_goals simp [Radio.strobesOn, Settings.strobes]
  obtain ⟨hsame, hslots⟩ := lineOffFold_spec (fun i => before.lineEnabled (i.val / 16) && !after.lineEnabled (i.val / 16))
    (List.finRange 64) (List.nodup_finRange 64) { r with strobes := r.strobesOn after }
  rw [Radio.linesOff, hstrobes]
  exact ⟨hsame, fun j => by simpa using hslots j⟩

/-- Where no line changes, the strobes alone can. -/
theorem Radio.linesOff_kept (r : Radio) {before after : Settings} (h : ∀ n, after.lineEnabled n = before.lineEnabled n) :
    r.linesOff before after = { r with strobes := r.strobesOn after } := by
  obtain ⟨hsame, hslots⟩ := r.linesOff_spec before after
  have hkept : (r.linesOff before after).slots = r.slots := by
    ext i hi
    rw [show (r.linesOff before after).slots[i] = r.slots[i] from (hslots ⟨i, hi⟩).trans (if_neg (by simp [h]))]
  rw [hsame, hkept]

/-! ### The setting put in force (R116, R148) -/

/-- The setting in force and the span re-formed where it has changed (R116, R148; log 45). -/
def State.settingPut (s : State) (n v : Nat) : State :=
  let after := s.store.settings.put n v
  { s with
    store := { s.store with settings := after }
    journal :=
      if (n = 18 ∨ n = 19) ∧ (after.journalBase ≠ s.journal.base ∨ after.journalExtent ≠ s.journal.extent) then
        { s.journal with base := after.journalBase, extent := after.journalExtent, floor := s.journal.next, snapshot := none }
      else s.journal }

/-- A setting other than FORWARD WINDOW tests no forwarding (R91, R116, R148). -/
theorem State.forceSetting_eq (s : State) {n : Nat} (v : Nat) (hn : n ≠ 13) :
    s.forceSetting n v = (s.settingPut n v).setRadio (s.radio.linesOff s.store.settings (s.store.settings.put n v)) := by
  rw [State.forceSetting, State.settingPut]
  dsimp only
  rw [if_neg hn]
  by_cases hspan : n = 18 ∨ n = 19
  · simp only [hspan, true_and]
    rfl
  · simp only [hspan, false_and, if_false]
    rfl

/-- A new FORWARD WINDOW in force, before forwarding is tested (R148). -/
def State.windowPut (s : State) (v : Nat) : State :=
  let after := s.store.settings.put 13 v
  { s with store := { s.store with settings := after }, radio := { s.radio with strobes := s.radio.strobesOn after } }

theorem State.forceSetting_window (s : State) (v : Nat) : s.forceSetting 13 v = (s.windowPut v).forwardEntries := by
  rw [State.forceSetting, State.windowPut]
  dsimp only
  rw [if_pos rfl, if_neg (by decide), s.radio.linesOff_kept (before := s.store.settings) (after := s.store.settings.put 13 v) fun _ => rfl]
  rfl

/-- A completed setting write of a command: the setting in force, the reply, then what the store serves (R85, R145, R148). -/
theorem settingComplete_serves {s ended : State} {tag : U8} {n v named : Nat} {first : Bool} {copy : SettingsCopy} (hp : s.powered = true)
    (hw : s.store.current = some { request := .setting tag n v named, unit := .settings first copy })
    (he : State.forceSetting { s with store := s.store.copyEnded first (some copy) } n v = ended) (hn : ended.store.current = none) :
    ∃ t : State, exec .settingWriteComplete s = .next t ∧ State.serves
      (ended.queueReply s.line.queue.length ((settingDone n (ended.store.settings.get n) named).frame 0x29 tag)) t := by
  refine ⟨_, exec_settingWriteComplete hp hw, ?_⟩
  rw [State.writeEnds_copy, he]
  exact State.pumpStore_serves (by rw [State.queueReply_store, hn])

/-! ### The write of power-on (R164) -/

theorem State.startWriteFault_waits {s : State} (h : s.startingUp = true) :
    s.startWriteFault = s.setFaults { s.faults with writeFailWaits := true } := if_pos h

theorem State.startWriteFault_faulted {s : State} (h : ¬s.startingUp = true) (hadm : s.admits .storeWriteFail) :
    s.startWriteFault = s.faulted .storeWriteFail .store [] := (if_neg h).trans (State.storeFault_faulted hadm)

end Sys2Proof.Machine

open Sys2Proof Sys2Proof.Machine

/-- Settles O38: what the end of the write leaves, then what the store serves. -/
theorem freeEnds : Obligations.FreeEnds := by
  intro s n rest room next hp hw hb
  refine ⟨⟨_, ?_, State.pumpStore_serves rfl⟩, fun hadm => ⟨_, ?_, State.pumpStore_serves rfl⟩⟩
  · rw [exec_forwardFreeComplete hp hw, hb, List.erase_cons_head]
    rfl
  · rw [exec_forwardFreeFail hp hw, State.storeFault_faulted (by exact hadm)]
    rfl

/-- Settles O36: what the end of the write leaves, then what the store serves. -/
theorem settingWriteEnds : Obligations.SettingWriteEnds := by
  intro s request first copy hp hw put
  refine ⟨?_, ?_⟩
  · rintro rfl
    refine ⟨⟨_, ?_, State.pumpStore_serves rfl⟩, ?_⟩
    · rw [exec_settingWriteComplete_powerOn hp hw, State.writeEnds_copy]
      rfl
    intro waits
    refine ⟨fun h => ⟨_, ?_, State.pumpStore_serves rfl⟩, fun h hadm => ⟨_, ?_, State.pumpStore_serves rfl⟩⟩
    · rw [exec_settingWriteFail_powerOn hp hw, State.writeDamages_copy, State.startWriteFault_waits (by exact s.startingUp_iff.mpr h)]
      rfl
    · rw [exec_settingWriteFail_powerOn hp hw, State.writeDamages_copy,
        State.startWriteFault_faulted (by exact mt s.startingUp_iff.mp h) (by exact hadm)]
      rfl
  · rintro tag n v named rfl - -
    refine ⟨fun hadm => ⟨_, _, exec_settingWriteFail hp hw, State.pumpStore_serves ?_, ?_⟩, fun hn => ?_, ?_⟩
    · rw [State.queueReply_store, State.writeDamages_copy, State.storeFault_faulted (by exact hadm)]
      rfl
    · rw [State.writeDamages_copy, State.storeFault_faulted (by exact hadm)]
      exact State.queueReply_answeredFrom _ (List.prefix_append ..)
    · intro after
      obtain ⟨hradio, hslots⟩ := s.radio.linesOff_spec s.store.settings after
      obtain ⟨t, ht, hserves⟩ := settingComplete_serves hp hw (State.forceSetting_eq _ v hn) rfl
      rw [State.queueReply_last _ (by exact le_rfl)] at hserves
      refine ⟨_, t, ht, hserves, ?_, hslots⟩
      exact congrArg (State.setRadio (State.setLine (State.settingPut _ n v) _)) hradio
    · rintro rfl after strobes
      have hforwarded := (State.windowPut { s with store := s.store.copyEnded first (some copy) } v).forwardEntries_forwarded
      obtain ⟨t, ht, hserves⟩ := settingComplete_serves hp hw (State.forceSetting_window _ v)
        (congrArg SettingStore.current hforwarded.store)
      rw [hforwarded.store] at hserves
      exact ⟨_, t, ht, hserves, State.queueReply_answeredFrom _ hforwarded.queue⟩
end

section
/-! FORWARD RESULT, and the service of the store at its event (R83 to R85, R145). -/

namespace Sys2Proof.Machine

open Sys2Proof

/-! ### The store does not read the server line -/

theorem State.beginWrite_setLine (s : State) (l : ServerLine) : (s.setLine l).beginWrite = s.beginWrite.setLine l := by
  unfold State.beginWrite
  rw [State.setLine_store]
  split <;> rfl

theorem State.handFree_setLine (s : State) (l : ServerLine) : (s.setLine l).handFree = s.handFree.setLine l := by
  unfold State.handFree
  rw [State.setLine_store, State.setLine_uplink]
  split
  · split <;> rfl
  · rfl

theorem State.pumpStore_setLine (s : State) (l : ServerLine) : (s.setLine l).pumpStore = s.pumpStore.setLine l := by
  rw [State.pumpStore, State.pumpStore, State.beginWrite_setLine, State.handFree_setLine, State.beginWrite_setLine]

/-- A test of the store changes the store and the free-value counter alone. -/
theorem State.pumpStore_frame (s : State) :
    s.pumpStore = { s with store := s.pumpStore.store, freeCount := s.pumpStore.freeCount } := by
  have hbegin : ∀ t : State, t.beginWrite = { t with store := t.beginWrite.store, freeCount := t.beginWrite.freeCount } := by
    intro t
    unfold State.beginWrite
    split <;> rfl
  have hhand : s.beginWrite.handFree = { s.beginWrite with store := s.beginWrite.handFree.store } := by
    unfold State.handFree
    split
    · split <;> rfl
    · rfl
  rw [State.pumpStore, hbegin s.beginWrite.handFree, hhand, hbegin s]

/-! ### FORWARD RESULT -/

/-- Uplink Control once an entry is answered: the entry removed, the exposure lower, the number in the free backlog (R77, R83, R85). -/
def Uplink.answered (u : Uplink) (e : ForwardEntry) : Uplink :=
  { u with
    queue := u.queue.filter fun f => f.number != e.number, exposure := u.exposure - e.requested, backlog := u.backlog ++ [e.number] }

/-- An entry answered, with what the store then does (R83, R85, R145). -/
def State.resultTaken (s : State) (e : ForwardEntry) : State := (s.setUplink (s.uplink.answered e)).pumpStore

theorem State.resultTaken_hands (s : State) (e : ForwardEntry) :
    State.hands { s with uplink := s.uplink.answered e } (s.resultTaken e) := State.pumpStore_hands _

theorem State.resultTaken_frame (s : State) (e : ForwardEntry) : s.resultTaken e = { s with
    uplink := s.uplink.answered e, store := (s.resultTaken e).store, freeCount := (s.resultTaken e).freeCount } :=
  State.pumpStore_frame _

theorem State.owe_resultTaken (s : State) (e : ForwardEntry) : s.owe.resultTaken e = (s.resultTaken e).setLine s.owe.line :=
  State.pumpStore_setLine (s.setUplink (s.uplink.answered e)) s.owe.line

theorem State.resultTaken_line (s : State) (e : ForwardEntry) : (s.resultTaken e).line = s.line := by rw [State.resultTaken_frame]

/-- An answered entry makes none UNSENT. -/
theorem State.resultTaken_quiet {s : State} (e : ForwardEntry) (h : ∀ f ∈ s.uplink.queue, f.state ≠ .unsent) :
    ∀ f ∈ (s.resultTaken e).uplink.queue, f.state ≠ .unsent := by
  rw [State.resultTaken_frame]
  exact fun f hf => h f (List.mem_filter.mp hf).1

section
variable {s : State} {bytes : Bytes} {number : U32} {outcome reason : U8} {e : ForwardEntry}

/-- An answered entry accepted: its record alone (R83). -/
def State.resultAccepted (s : State) (e : ForwardEntry) : State :=
  { s.resultTaken e with journal := s.journal.append s.run.clock (forwardRecord .forwardAccepted e), line := s.line }

theorem State.resultAccepted_eq (s : State) (e : ForwardEntry) : s.resultAccepted e =
    { s.resultTaken e with journal := s.journal.append s.run.clock (forwardRecord .forwardAccepted e) } := by
  rw [State.resultAccepted, ← s.resultTaken_line e]

/-- An answered entry rejected: its record, its notice and its fault (R84). -/
def State.resultRejected (s : State) (e : ForwardEntry) (reason : U8) (bytes : Bytes) : State :=
  State.faulted
    { s.resultTaken e with
      journal := s.journal.append s.run.clock { forwardRecord .forwardRejected e with flags := reason, hostReason := true }
      line := { s.line with queue := s.line.queue ++ [forwardRejectedNotice e reason] } }
    .forwardRejected .uplink bytes

/-- The reply to a FORWARD RESULT that is taken (R83). -/
def Uplink.resultReply (u : Uplink) (e : ForwardEntry) : Reply :=
  .accepted (le 4 (u.answered e).exposure ++ le 4 (u.answered e).queue.length)

theorem forwardResult_range (h1 : outcome ≠ 1) (h2 : outcome ≠ 2) : forwardResult bytes number outcome reason s = s.refuse .range :=
  if_pos ⟨h1, h2⟩

theorem forwardResult_noEntry (ho : outcome = 1 ∨ outcome = 2) (h : s.uplink.sentEntry number.toNat = none) :
    forwardResult bytes number outcome reason s = (s.raise .noEntry .serverLine bytes, .refused .noEntry) := by
  have hfind : s.uplink.queue.find? (fun e => e.number == number.toNat && e.isSent) = none := h
  rw [forwardResult, if_neg (fun h => ho.elim h.1 h.2), hfind]

theorem forwardResult_accepted (h : s.uplink.sentEntry number.toNat = some e) :
    forwardResult bytes number 1 reason s = ((s.resultAccepted e).forwardEntries, s.uplink.resultReply e) := by
  have hfind : s.uplink.queue.find? (fun e => e.number == number.toNat && e.isSent) = some e := h
  have htold : (s.resultTaken e).appendRecord (forwardRecord .forwardAccepted e) = s.resultAccepted e := by
    rw [State.resultAccepted, State.resultTaken_frame]
    rfl
  rw [forwardResult, if_neg (by decide), hfind, ← htold]
  rfl

theorem forwardResult_rejected (h : s.uplink.sentEntry number.toNat = some e) (hroom : s.line.places < 55) :
    forwardResult bytes number 2 reason s = ((s.resultRejected e reason bytes).forwardEntries, s.uplink.resultReply e) := by
  have hfind : s.uplink.queue.find? (fun e => e.number == number.toNat && e.isSent) = some e := h
  have htold : (((s.resultTaken e).appendRecord { forwardRecord .forwardRejected e with flags := reason, hostReason := true }).offer
      (forwardRejectedNotice e reason)).raise .forwardRejected .uplink bytes = s.resultRejected e reason bytes := by
    rw [State.offer_room _ _ (by rw [State.appendRecord_line, State.resultTaken_line]; omega), State.raise_faulted]
    · rw [State.resultRejected, State.resultTaken_frame]
      rfl
    · left
      rw [State.enqueue_line, State.appendRecord_line, State.resultTaken_line]
      simp only [ServerLine.places, List.length_append, List.length_singleton] at hroom ⊢
      omega
  rw [forwardResult, if_neg (by decide), hfind, ← htold]
  rfl

/-- The reply owed stands beside the work of an accepted result. -/
theorem State.owe_resultAccepted (s : State) (e : ForwardEntry) : s.owe.resultAccepted e = (s.resultAccepted e).owe := by
  rw [State.resultAccepted, State.owe_resultTaken]
  rfl

/-- The reply owed stands beside the work of a rejected result. -/
theorem State.owe_resultRejected (s : State) (e : ForwardEntry) (reason : U8) (bytes : Bytes) :
    s.owe.resultRejected e reason (bytes.take 8) = (s.resultRejected e reason bytes).owe := by
  rw [State.resultRejected, State.faulted_take, State.owe_resultTaken]
  rfl

end

end Sys2Proof.Machine

open Sys2Proof Sys2Proof.Machine

/-- Settles O33: each outcome of a FORWARD RESULT, the store's service as `State.resultTaken` leaves it. -/
theorem forwardResultTaken : Obligations.ForwardResultTaken := by
  intro s tag number outcome reason ht hplaces frame
  have howed : s.owe.line.places = s.line.places + 1 := rfl
  refine ⟨fun h => ?_, fun ho hnone => ?_, ?_⟩
  · refine exec_answered (.forwardResult number outcome reason) (forwardResult _ number outcome reason) rfl ht rfl rfl rfl ?_
    exact forwardResult_range (by rintro rfl; exact absurd h (by decide)) (by rintro rfl; exact absurd h (by decide))
  · have hfind : s.owe.uplink.sentEntry number.toNat = none :=
      List.find?_eq_none.mpr fun e hm hc => by
        rw [Bool.and_eq_true, beq_iff_eq, beq_iff_eq] at hc
        exact hnone e hm hc.1 hc.2
    have hadm : s.owe.admits .noEntry := .inl (by omega)
    refine ⟨_, exec_taken (c := .forwardResult number outcome reason) rfl ht rfl rfl,
      State.answer_answeredFrom ?_ (List.prefix_append ..)⟩
    rw [forwardResult_noEntry ho hfind, State.raise_faulted _ _ hadm, State.faulted_take]
  · intro e he queue u record data quiet ends
    have hforwards : ∀ {t : State}, forwardResult (frame.take 8) number outcome reason s.owe =
        (t.owe.forwardEntries, s.uplink.resultReply e) → s.line.queue <+: t.line.queue → ends t.owe.forwardEntries :=
      exec_forwards (.forwardResult number outcome reason) (forwardResult _ number outcome reason) rfl ht rfl rfl rfl
    refine ⟨s.resultTaken e, s.resultTaken_hands e, ?_⟩
    refine ⟨?_, ?_⟩
    · rintro rfl
      have hr : forwardResult (frame.take 8) number 1 reason s.owe = _ := forwardResult_accepted (s := s.owe) he
      rw [State.owe_resultAccepted] at hr
      refine ⟨hforwards hr List.prefix_rfl, fun hquiet => ?_⟩
      rw [State.forwardEntries_quiet (by exact State.resultTaken_quiet e hquiet)] at hr
      have hexec := exec_answered_changed (i := .forwardResult tag number 1 reason) (.forwardResult number 1 reason)
        (forwardResult _ number 1 reason) rfl ht rfl rfl rfl hr rfl
      rwa [State.resultAccepted_eq] at hexec
    · rintro rfl
      have hr : forwardResult (frame.take 8) number 2 reason s.owe = _ := forwardResult_rejected (s := s.owe) he (by omega)
      rw [State.owe_resultRejected] at hr
      have hends := hforwards hr ((List.prefix_append ..).trans (List.prefix_append ..))
      refine ⟨hends, fun hquiet => ?_⟩
      rwa [State.forwardEntries_quiet (by exact State.resultTaken_quiet e hquiet)] at hends
end

section
/-! SETTING WRITE (R144, R145, R147). -/

namespace Sys2Proof.Machine

open Sys2Proof

/-! ### Its tests -/

/-- A setting and a value that pass the tests of R147 against the list of settings. -/
def settingGood (n v : Nat) : Prop :=
  1 ≤ n ∧ n ≤ 26 ∧ (n = 7 ∨ (14 ≤ n ∧ n ≤ 17) ∨ (21 ≤ n ∧ n ≤ 26) → v ≤ 1)

theorem settingGood_iff {n v : Nat} : settingGood n v ↔ ¬(!isSetting n || (isListSetting n && decide (1 < v))) = true := by
  have hlist : isListSetting n = true ↔ n = 7 ∨ (14 ≤ n ∧ n ≤ 17) ∨ (21 ≤ n ∧ n ≤ 26) := by simp [isListSetting, or_assoc]
  have hnamed : (!isSetting n) = true ↔ ¬(1 ≤ n ∧ n ≤ 26) := by
    rw [Bool.not_eq_true', isSetting, decide_eq_false_iff_not]
  rw [settingGood, ← hlist, Bool.or_eq_true, hnamed, not_or, not_not, Bool.and_eq_true, decide_eq_true_iff, not_and, not_lt, and_assoc]

section
variable {s : State} {n v : Nat}

theorem settingWriteRefusal_state (h : s.run.state ≠ .halted) : settingWriteRefusal s n v = some .state := if_pos h

theorem settingWriteRefusal_range (h : s.run.state = .halted) (hg : ¬settingGood n v) : settingWriteRefusal s n v = some .range := by
  rw [settingWriteRefusal, if_neg (not_not.mpr h), if_pos (not_not.mp (mt settingGood_iff.mpr hg))]

theorem settingWriteRefusal_busy (h : s.run.state = .halted) (hg : settingGood n v) (hl : 8 ≤ s.store.waiting.length) :
    settingWriteRefusal s n v = some .busy := by
  rw [settingWriteRefusal, if_neg (not_not.mpr h), if_neg (settingGood_iff.mp hg), if_pos (by exact hl)]

theorem settingWriteRefusal_none (h : s.run.state = .halted) (hg : settingGood n v) (hl : s.store.waiting.length < 8) :
    settingWriteRefusal s n v = none := by
  rw [settingWriteRefusal, if_neg (not_not.mpr h), if_neg (settingGood_iff.mp hg), if_neg (by exact Nat.not_le.mpr hl)]

end

section
variable {s : State} {tag setting : U8} {value : U32}

theorem exec_settingWrite_refused {r : Reason} (ht : s.takes tag) (h : settingWriteRefusal s setting.toNat value.toNat = some r) :
    exec (.settingWrite tag setting value) s = .next (s.replied 0x29 tag (.refused r)) := by
  rw [exec_taken (c := .settingWrite setting value) rfl ht rfl rfl, runHost, settingWriteCommand, h]
  dsimp only
  rw [State.queueReply_last _ (by exact le_rfl)]
  rfl

theorem exec_settingWrite_placed (ht : s.takes tag) (h : settingWriteRefusal s setting.toNat value.toNat = none) :
    exec (.settingWrite tag setting value) s = .next (s.owe.placeRequest (settingRequest s tag setting.toNat value.toNat)) := by
  rw [exec_taken (c := .settingWrite setting value) rfl ht rfl rfl, runHost, settingWriteCommand, h]

end

/-- A setting other than EXPOSURE CAP is clamped into its range (R147). -/
theorem clampSetting_range (exposure : Nat) {n : Nat} (v : Nat) (hn : n ≠ 12) :
    clampSetting exposure n v = max (settingRange n).1 (min v (settingRange n).2) := if_neg hn

/-! ### The write placed -/

/-- With no write in progress, the oldest waiting request begins (R145). -/
theorem State.beginWrite_next {s : State} {r : StoreRequest} {rest : List StoreRequest} (hc : s.store.current = none)
    (hw : s.store.waiting = r :: rest) : s.beginWrite =
      (s.setStore { s.store with waiting := rest, current := some { request := r, unit := (buildUnit s r).1 } }).setFree
        (s.freeCount + (buildUnit s r).2) := by
  simp only [State.beginWrite, hc, hw]

/-- With nothing waiting or in progress and no free in the backlog, a request that reads no free value begins alone (R145). -/
theorem State.placeRequest_alone {s : State} {r : StoreRequest} {unit : StoreUnit} (hc : s.store.current = none)
    (hw : s.store.waiting = []) (hb : s.uplink.backlog = [])
    (hu : (buildUnit (s.setStore { s.store with waiting := [r] }) r).1 = unit)
    (hfree : (buildUnit (s.setStore { s.store with waiting := [r] }) r).2 = 0) :
    s.placeRequest r = { s with store := { s.store with current := some { request := r, unit := unit } } } := by
  let begun := s.setStore { s.store with current := some { request := r, unit := unit } }
  have hbegin : (s.setStore { s.store with waiting := [r] }).beginWrite = begun := by
    rw [State.beginWrite_next (by exact hc) (by rfl), hu, hfree]
    simp only [begun, hw]
    rfl
  have hhand : begun.handFree = begun := by
    have hnone : begun.uplink.backlog = [] := hb
    simp only [State.handFree, hnone]
  rw [State.placeRequest, hw, List.nil_append, State.pumpStore, hbegin, hhand]
  exact State.beginWrite_busy rfl

theorem SettingStore.copyWritten_of_ne {st : SettingStore} {a b : SettingsCopy} (content : Settings) (ha : st.first = some a)
    (hb : st.second = some b) (hne : a.count ≠ b.count) :
    st.copyWritten content = .settings (decide (a.count < b.count)) { count := max a.count b.count + 1, settings := content } := by
  have : decide (a.count ≤ b.count) = decide (a.count < b.count) := decide_eq_decide.mpr (by omega)
  simp only [SettingStore.copyWritten, ha, hb, this]

end Sys2Proof.Machine

open Sys2Proof Sys2Proof.Machine

/-- Settles O35: the tests of R147 in order, the write placed, and each setting's range. -/
theorem settingWritePlaced : Obligations.SettingWritePlaced := by
  refine ⟨fun s tag setting value ht => ?_, fun exposure v row hrow => ?_, fun exposure v => ?_⟩
  · intro i n v listed good request
    have hplaced : s.run.state = .halted → good → s.store.waiting.length < 8 → exec i s = .next (s.owe.placeRequest request) :=
      fun hs hg hl => exec_settingWrite_placed ht (settingWriteRefusal_none hs hg hl)
    refine ⟨fun hs => ?_, fun hs hg => ?_, fun hs hg hl => ?_, fun hs hg hl => ?_, fun hs hg hl hb => ⟨fun hc => ?_, ?_⟩⟩
    · exact exec_settingWrite_refused ht (settingWriteRefusal_state hs)
    · exact exec_settingWrite_refused ht (settingWriteRefusal_range hs hg)
    · exact exec_settingWrite_refused ht (settingWriteRefusal_busy hs hg hl)
    · exact ⟨_, hplaced hs hg hl, s.owe.placeRequest_hands request⟩
    · rw [hplaced hs hg hl, State.placeRequest_waits (s := s.owe) request hc hb]
      rfl
    · intro a b hc hw hfirst hsecond hne
      have hunit := (settingsUnit_eq s.store _).trans
        (SettingStore.copyWritten_of_ne (s.store.settings.put n (clampSetting s.uplink.exposure n v)) hfirst hsecond hne)
      rw [hplaced hs hg hl, State.placeRequest_alone (s := s.owe) (r := request) hc hw hb (by exact hunit) rfl]
      rfl
  · obtain ⟨hrange, hn⟩ : settingRange row.1 = row.2 ∧ row.1 ≠ 12 := by
      revert row
      decide
    rw [clampSetting_range exposure v hn, hrange]
  · show max (max 0 (min v 10000000)) exposure = _
    rw [Nat.zero_max]
end

section
/-! Power-on and the loss of power (R88, R143, R145, R153, R155). -/

namespace Sys2Proof.Machine

open Sys2Proof

/-! ### The forward entries the store reloads (R88) -/

theorem insertEntry_perm (e : ForwardEntry) (queue : List ForwardEntry) : (insertEntry e queue).Perm (e :: queue) := by
  induction queue with
  | nil => rfl
  | cons x rest ih =>
    rw [insertEntry]
    split
    · rfl
    · exact (ih.cons x).trans (.swap ..)

/-- The entries stand in number order. -/
abbrev inOrder (queue : List ForwardEntry) : Prop := queue.Pairwise fun a b => a.number ≤ b.number

theorem insertEntry_inOrder (e : ForwardEntry) {queue : List ForwardEntry} (h : inOrder queue) : inOrder (insertEntry e queue) := by
  induction queue with
  | nil => exact List.pairwise_singleton ..
  | cons x rest ih =>
    obtain ⟨hx, hrest⟩ := List.pairwise_cons.mp h
    rw [insertEntry]
    split
    · rename_i hlt
      refine List.pairwise_cons.mpr ⟨fun y hy => ?_, h⟩
      obtain rfl | hy := List.mem_cons.mp hy
      · exact Nat.le_of_lt hlt
      · exact Nat.le_trans (Nat.le_of_lt hlt) (hx y hy)
    · rename_i hge
      refine List.pairwise_cons.mpr ⟨fun y hy => ?_, ih hrest⟩
      obtain rfl | hy := List.mem_cons.mp ((insertEntry_perm e rest).mem_iff.mp hy)
      · exact Nat.not_lt.mp hge
      · exact hx y hy

theorem reloadedQueue_perm (rooms : List Room) : (reloadedQueue rooms).Perm (rooms.filterMap Room.entry) := by
  unfold reloadedQueue
  induction rooms.filterMap Room.entry with
  | nil => rfl
  | cons e stored ih => exact (insertEntry_perm e _).trans (ih.cons e)

theorem reloadedQueue_inOrder (rooms : List Room) : inOrder (reloadedQueue rooms) := by
  unfold reloadedQueue
  induction rooms.filterMap Room.entry with
  | nil => exact .nil
  | cons e stored ih => exact insertEntry_inOrder e ih

theorem reloadedUplink_exposure (rooms : List Room) :
    (reloadedUplink rooms).exposure = ((rooms.filterMap Room.entry).map ForwardEntry.requested).sum :=
  ((reloadedQueue_perm rooms).map _).sum_eq

/-- The next forward number: the highest that a unit carries, above every entry (R88 step 5). -/
theorem reloadedNext_eq (rooms : List Room) :
    reloadedNext rooms =
      ((rooms.filterMap Room.entry).map (fun e : ForwardEntry => e.number + 1) ++ rooms.filterMap Room.carried).foldl max 1 := by
  have hfold : ∀ (l : List Nat) (a b : Nat), l.foldl max (max a b) = max a (l.foldl max b) := fun _ _ _ => List.foldl_assoc
  have hperm := ((reloadedQueue_perm rooms).map fun e : ForwardEntry => e.number + 1).foldl_eq (f := max) 0
  rw [reloadedNext, hperm, List.foldl_append]
  generalize (rooms.filterMap Room.entry).map (fun e : ForwardEntry => e.number + 1) = above
  have habove : above.foldl max 1 = max (above.foldl max 0) 1 := by
    rw [Nat.max_comm, ← hfold]
    rfl
  rw [habove, hfold, Nat.max_comm]

/-! ### The units that fail their checksum (R153 to R155, R164) -/

theorem SettingStore.badUnits_eq (st : SettingStore) :
    st.badUnits = (st.rooms.toList.filter fun r => r == .damaged).length + [st.first, st.second].count none := by
  rw [SettingStore.badUnits, Nat.add_comm]
  cases st.first <;> cases st.second <;> simp

/-- The record of the first unit that fails its checksum at power-on (R154). -/
def badUnitRecord : FaultRecord := { code := .storeEntryBad, source := .store, bytes := List.replicate 8 0, time := 0 }

/-- Power-on once it has met this number of units that fail their checksum (R153, R155, R164). -/
def State.badRead (s : State) (n : Nat) : State :=
  { s with
    faults := { FaultCapture.start with
      note := { record := if 0 < n then some badUnitRecord else none, further := decide (1 < n) } }
    line := { ServerLine.start with
      queue := if 0 < n ∧ s.store.settings.notifyNote = true then [faultNotice .note badUnitRecord] else [] } }

/-- One more unit that fails its checksum: the first is captured and notified, a later one sets the flag (R153, R155). -/
theorem State.badRead_raise {s : State} (hrun : s.run = .start) (n : Nat) :
    (s.badRead n).raise .storeEntryBad .store [] = s.badRead (n + 1) := by
  have hrule : (s.badRead n).faults.rule .storeEntryBad = { masked := false, cls := .note } := rfl
  have hrecord : (s.badRead n).firstFault .storeEntryBad .store [] = badUnitRecord := by
    simp only [State.firstFault, State.badRead, hrun]
    rfl
  have hadm : (s.badRead n).admits .storeEntryBad := by
    left
    simp only [State.badRead, ServerLine.places]
    split <;> decide
  rw [State.raise_faulted _ _ hadm]
  simp only [State.faulted, State.faultNotices, FaultCapture.judged, State.faultDrops, FaultCapture.captures, hrule, hrecord]
  cases n with
  | zero => simp [State.badRead, FaultCapture.classState, FaultCapture.setClass, Settings.notify]
  | succ n => simp [State.badRead, FaultCapture.classState, FaultCapture.setClass, Settings.notify]

theorem raiseEntryBad_badRead {s : State} (hrun : s.run = .start) (k n : Nat) :
    raiseEntryBad k (s.badRead n) = s.badRead (n + k) := by
  induction k generalizing n with
  | zero => rfl
  | succ k ih => rw [raiseEntryBad, State.badRead_raise hrun, ih, Nat.add_right_comm, Nat.add_assoc]

/-! ### Power-on -/

/-- Power-on: the store read, its bad units reported, and the settings write it places, alone in the store (R88, R143, R145, R164). -/
theorem State.powerOn_eq (s : State) :
    s.powerOn = { s.reloaded.badRead s.store.badUnits with
      store := { s.reloaded.store with
        current :=
          if s.store.startWrite = true then
            some { request := .powerOnSettings, unit := s.store.copyWritten (reloadedSettings s.store) }
          else none } } := by
  have hread : raiseEntryBad s.store.badUnits s.reloaded = s.reloaded.badRead s.store.badUnits := by
    have := raiseEntryBad_badRead (s := s.reloaded) rfl s.store.badUnits 0
    rwa [Nat.zero_add] at this
  rw [State.powerOn, hread]
  dsimp only
  split
  · exact State.placeRequest_alone rfl rfl rfl (settingsUnit_eq ..) rfl
  · rfl

theorem SettingStore.startWrite_iff (st : SettingStore) :
    st.startWrite = true ↔ (st.first = none ∧ st.second = none) ∨
      (loadedSettings st.first st.second).exposureCap < (reloadedUplink st.rooms.toList).exposure := by
  simp [SettingStore.startWrite]

theorem Room.kept_eq (r : Room) : r.kept = if r = .damaged then .empty none else r := by
  cases r <;> simp [Room.kept]

/-! ### Loss of power -/

/-- A part without power over a store: every other block at its start values (R88, R143; log 40). -/
def State.powerLost (s : State) (store : SettingStore) : State :=
  { s with
    powered := false, hold := .none, line := .start, checks := [], tenders := .start, uplink := .start, radio := .start
    journal := .start 0 7, run := .start, store := { store with settings := {}, waiting := [], current := none }, faults := .start }

theorem exec_lossOfPower {s : State} (cut : PowerCut) (h : s.powered = true) :
    exec (.lossOfPower cut) s = .next (s.powerLost (s.store.cut cut)) := by
  show execLossOfPower cut s = _
  rw [execLossOfPower, if_neg (by simp [h])]
  rfl

theorem SettingStore.cut_idle {st : SettingStore} (cut : PowerCut) (h : st.current = none) : st.cut cut = st := by
  rw [SettingStore.cut, h]

theorem SettingStore.cut_before (st : SettingStore) : st.cut .before = st := by
  unfold SettingStore.cut
  split <;> rfl

theorem SettingStore.cut_damaged {st : SettingStore} {w : WriteInProgress} (h : st.current = some w) :
    st.cut .damaged = st.damage w.unit := by
  rw [SettingStore.cut, h]

theorem SettingStore.cut_after {st : SettingStore} {w : WriteInProgress} (h : st.current = some w) :
    st.cut .after = st.write w.unit := by
  rw [SettingStore.cut, h]

end Sys2Proof.Machine

open Sys2Proof Sys2Proof.Machine

/-- Settles O58: power-on as it reads the store, and a loss of power at each point of a write. -/
theorem powerOnAndLoss : Obligations.PowerOnAndLoss := by
  refine ⟨fun s => ?_, fun s cut hp => ?_, fun s cut hp => ?_⟩
  · intro rooms stored carried exposure loaded settings write writes bad record
    have hexposure : (reloadedUplink rooms).exposure = exposure := reloadedUplink_exposure rooms
    have hnext : reloadedNext rooms = (stored.map (fun e : ForwardEntry => e.number + 1) ++ carried).foldl max 1 :=
      reloadedNext_eq rooms
    have huplink : reloadedUplink rooms = { Uplink.start with
        queue := reloadedQueue rooms, exposure := exposure
        nextForward := (stored.map (fun e : ForwardEntry => e.number + 1) ++ carried).foldl max 1 } := by
      rw [← hexposure, ← hnext]
      rfl
    have hsettings : reloadedSettings s.store = settings := by
      rw [reloadedSettings, hexposure]
      rfl
    have hwrites : s.store.startWrite = true ↔ writes := by
      rw [SettingStore.startWrite_iff, hexposure]
      rfl
    have hrooms : s.store.rooms.map Room.kept = s.store.rooms.map fun r => if r = .damaged then .empty none else r :=
      congrArg (s.store.rooms.map ·) (funext Room.kept_eq)
    have hqueue : s.powerOn.uplink.queue = reloadedQueue rooms := by
      rw [State.powerOn_eq]
      rfl
    refine ⟨s.powerOn, rfl, ?_, ?_, ?_⟩
    · rw [hqueue, State.powerOn_eq, SettingStore.badUnits_eq, hsettings, State.badRead, State.reloaded, hsettings, hrooms, huplink]
      simp only [hwrites]
      rfl
    · rw [hqueue]
      exact reloadedQueue_perm rooms
    · rw [hqueue, List.pairwise_map]
      exact reloadedQueue_inOrder rooms
  · show execLossOfPower cut s = _
    rw [execLossOfPower, if_pos (by simp [hp])]
  · intro gone leaves
    have hleaves : ∀ {store : SettingStore}, s.store.cut cut = store → leaves store := by
      rintro _ rfl
      exact exec_lossOfPower cut hp
    refine ⟨?_, fun w hw => ?_⟩
    · rintro (hn | rfl)
      · exact hleaves (SettingStore.cut_idle cut hn)
      · exact hleaves s.store.cut_before
    · have hdamaged : ∀ {store : SettingStore}, s.store.damage w.unit = store → cut = .damaged → leaves store := by
        rintro _ rfl rfl
        exact hleaves (SettingStore.cut_damaged hw)
      have hafter : ∀ {store : SettingStore}, s.store.write w.unit = store → cut = .after → leaves store := by
        rintro _ rfl rfl
        exact hleaves (SettingStore.cut_after hw)
      refine ⟨fun hu => ?_, fun copy hu => ⟨hdamaged ?_, hafter ?_⟩, fun copy hu => ⟨hdamaged ?_, hafter ?_⟩,
        fun room content hu => ⟨hdamaged ?_, hafter ?_⟩⟩
      · cases cut with
        | before => exact hleaves s.store.cut_before
        | damaged => exact hdamaged (by rw [hu]; rfl) rfl
        | after => exact hafter (by rw [hu]; rfl) rfl
      all_goals
        rw [hu]
        rfl
end

section
/-! Fields of a body read back, and the frames of the two lines (R165, R176, R178). -/

namespace Sys2Proof.Machine

open Sys2Proof

/-! ### Little-endian fields -/

@[simp] theorem le_length (n v : Nat) : (le n v).length = n := by
  induction n generalizing v with
  | zero => rfl
  | succ n ih => simp [le, ih]

theorem leValue_le (n v : Nat) : leValue (le n v) = v % 256 ^ n := by
  induction n generalizing v with
  | zero => simp [le, leValue, Nat.mod_one]
  | succ n ih => rw [le, leValue, ih, pow_succ', Nat.mod_mul, BitVec.toNat_ofNat, show 2 ^ 8 = 256 from rfl]

@[simp] theorem field16_le (v : U16) (rest : Bytes) : field16 (le 2 v.toNat ++ rest) 0 = v := by
  have h : (le 2 v.toNat ++ rest).take 2 = le 2 v.toNat := List.take_left' (le_length ..)
  rw [field16, List.drop_zero, h, leValue_le]
  exact BitVec.eq_of_toNat_eq (by simpa using v.isLt)

@[simp] theorem field32_le (v : U32) (rest : Bytes) : field32 (le 4 v.toNat ++ rest) 0 = v := by
  have h : (le 4 v.toNat ++ rest).take 4 = le 4 v.toNat := List.take_left' (le_length ..)
  rw [field32, List.drop_zero, h, leValue_le]
  exact BitVec.eq_of_toNat_eq (by simpa using v.isLt)

@[simp] theorem field16_le_end (v : U16) : field16 (le 2 v.toNat) 0 = v := by simpa using field16_le v []

@[simp] theorem field32_le_end (v : U32) : field32 (le 4 v.toNat) 0 = v := by simpa using field32_le v []

/-! ### A field behind others -/

@[simp] theorem byteAt_zero (x : U8) (b : Bytes) : byteAt (x :: b) 0 = x := rfl

section
variable {a : Bytes} (b : Bytes) {n : Nat} (k : Nat)

theorem byteAt_append (h : a.length = n) : byteAt (a ++ b) (k + n) = byteAt b k := by
  subst h
  simp [byteAt, List.getElem?_append_right]

theorem field16_append (h : a.length = n) : field16 (a ++ b) (k + n) = field16 b k := by
  subst h
  rw [field16, Nat.add_comm, List.drop_length_add_append, field16]

theorem field32_append (h : a.length = n) : field32 (a ++ b) (k + n) = field32 b k := by
  subst h
  rw [field32, Nat.add_comm, List.drop_length_add_append, field32]

theorem fieldBytes_append (h : a.length = n) (len : Nat) : fieldBytes (a ++ b) (k + n) len = fieldBytes b k len := by
  subst h
  rw [fieldBytes, Nat.add_comm, List.drop_length_add_append, fieldBytes]

theorem fieldBytes_front (h : a.length = n) : fieldBytes (a ++ b) 0 n = a := by
  rw [fieldBytes, List.drop_zero, List.take_left' h]

theorem fieldBytes_whole (h : a.length = n) : fieldBytes a 0 n = a := by simpa using fieldBytes_front [] h

variable (x : U8) (v : Nat)

@[simp] theorem byteAt_cons : byteAt (x :: b) (k + 1) = byteAt b k := byteAt_append (a := [x]) b k rfl
@[simp] theorem field16_cons : field16 (x :: b) (k + 1) = field16 b k := field16_append (a := [x]) b k rfl
@[simp] theorem field32_cons : field32 (x :: b) (k + 1) = field32 b k := field32_append (a := [x]) b k rfl
@[simp] theorem fieldBytes_cons (len : Nat) : fieldBytes (x :: b) (k + 1) len = fieldBytes b k len :=
  fieldBytes_append (a := [x]) b k rfl len

@[simp] theorem byteAt_le2 : byteAt (le 2 v ++ b) (k + 2) = byteAt b k := byteAt_append b k (le_length ..)
@[simp] theorem field16_le2 : field16 (le 2 v ++ b) (k + 2) = field16 b k := field16_append b k (le_length ..)
@[simp] theorem field32_le2 : field32 (le 2 v ++ b) (k + 2) = field32 b k := field32_append b k (le_length ..)
@[simp] theorem fieldBytes_le2 (len : Nat) : fieldBytes (le 2 v ++ b) (k + 2) len = fieldBytes b k len :=
  fieldBytes_append b k (le_length ..) len

@[simp] theorem byteAt_le4 : byteAt (le 4 v ++ b) (k + 4) = byteAt b k := byteAt_append b k (le_length ..)
@[simp] theorem field32_le4 : field32 (le 4 v ++ b) (k + 4) = field32 b k := field32_append b k (le_length ..)
@[simp] theorem fieldBytes_le4 (len : Nat) : fieldBytes (le 4 v ++ b) (k + 4) len = fieldBytes b k len :=
  fieldBytes_append b k (le_length ..) len

end

/-! ### The bodies of the host commands (R176) -/

theorem linesCode_ne_summaryCode : Config.linesCode ≠ Config.summaryCode := by
  have h : Config.linesCodeGap.val + 1 < 256 := by omega
  rw [Config.linesCode]
  bv_omega

theorem partOfByte_partByte {part : QueryPart} (h : part.wf = true) : partOfByte (partByte part) = part := by
  cases part with
  | summary => exact if_pos rfl
  | lines => rw [partOfByte, partByte, if_neg linesCode_ne_summaryCode, if_pos rfl]
  | other b =>
    simp only [QueryPart.wf, Bool.and_eq_true, bne_iff_ne] at h
    rw [partOfByte, partByte, if_neg h.1, if_neg h.2]

/-- Items of 4 bytes each are read back one behind the other. -/
theorem items_readBack (items : List U32) :
    (List.range items.length).map (fun i => field32 (items.map fun v => le 4 v.toNat).flatten (4 * i)) = items := by
  induction items with
  | nil => rfl
  | cons v rest ih =>
    rw [List.length_cons, List.range_succ_eq_map, List.map_cons, List.map_map, List.map_cons, List.flatten_cons]
    refine congrArg₂ _ (field32_le v _) (Eq.trans (List.map_congr_left fun i _ => ?_) ih)
    exact field32_le4 _ (4 * i) _

theorem items_length (items : List U32) : (items.map fun v => le 4 v.toNat).flatten.length = 4 * items.length := by
  induction items with
  | nil => rfl
  | cons v rest ih => rw [List.map_cons, List.flatten_cons, List.length_append, ih, le_length, List.length_cons]; omega

theorem planBody_length (p : PlanBytes) : (planBody p).length = 2 + 4 * p.items.length := by
  rw [planBody, List.length_append, items_length]
  rfl

theorem readPlan_planBody {p : PlanBytes} (h : p.wf = true) : readPlan (planBody p) = some p := by
  have hn : p.items.length = planItems p.form p.k := by simpa [PlanBytes.wf] using h
  have hitems : ∀ i, field32 (planBody p) (2 + 4 * i) = field32 (p.items.map fun v => le 4 v.toNat).flatten (4 * i) :=
    fun i => by rw [Nat.add_comm]; exact field32_append _ _ rfl
  have hform : byteAt (planBody p) 0 = p.form := rfl
  have hk : byteAt (planBody p) 1 = p.k := rfl
  simp only [readPlan, hitems, hform, hk, ← hn, planBody_length, if_true, items_readBack]

theorem readCommand_body {c : HostCommand} (h : c.wf = true) : readCommand c.kind c.body = some c := by
  cases c with
  | openCheck check table covers mode plan =>
    cases plan with
    | none => simp [HostCommand.kind, HostCommand.body, readCommand]
    | some p =>
      have hdrop : (le 2 check.toNat ++ (le 2 table.toNat ++ covers :: mode :: planBody p)).drop 6 = planBody p := rfl
      simp +arith [HostCommand.kind, HostCommand.body, readCommand, planBody_length, hdrop, readPlan_planBody h]
  | setSplit check p =>
    simp +arith [HostCommand.kind, HostCommand.body, readCommand, planBody_length, readPlan_planBody h]
  | checkQuery check part first => simp [HostCommand.kind, HostCommand.body, readCommand, exactly, partOfByte_partByte h]
  | authResult tender outcome approved code reason =>
    have hl : code.length = 6 := by simpa [HostCommand.wf] using h
    simp [HostCommand.kind, HostCommand.body, readCommand, exactly, hl, fieldBytes_front _ hl, byteAt_append _ 0 hl]
  | routeSlot slot mode check text =>
    have hl : text.length = 32 := by simpa [HostCommand.wf] using h
    simp [HostCommand.kind, HostCommand.body, readCommand, exactly, hl, fieldBytes_whole hl]
  | routeFill mode check text =>
    have hl : text.length = 32 := by simpa [HostCommand.wf] using h
    simp [HostCommand.kind, HostCommand.body, readCommand, exactly, hl, fieldBytes_whole hl]
  | _ => simp [HostCommand.kind, HostCommand.body, readCommand, exactly]

theorem knownKind_kind (c : HostCommand) : knownKind c.kind = true := by
  cases c <;> rfl

/-! ### A frame of the server line (R165) -/

/-- The bytes between the start byte and the CRC. -/
theorem frameInner_length (kind tag : U8) (body : Bytes) : (frameInner kind tag body).length = body.length + 4 := by
  simp +arith [frameInner]

theorem frameOf_length (kind tag : U8) (body : Bytes) : (frameOf kind tag body).length = body.length + 7 := by
  simp [frameOf, frameInner_length]

theorem frameCrcGood_frameOf (kind tag : U8) (body : Bytes) : frameCrcGood (frameOf kind tag body) = true := by
  have hinner := frameInner_length kind tag body
  have hcovered : ((frameOf kind tag body).drop 1).take (body.length + 4) = frameInner kind tag body := List.take_left' hinner
  have hcrc : field16 (frameOf kind tag body) (body.length + 5) = crc16 (frameInner kind tag body) := by
    rw [frameOf, field16_cons, ← Nat.zero_add (body.length + 4), field16_append _ 0 hinner, field16_le_end]
  rw [frameCrcGood, frameOf_length, Nat.add_sub_cancel_right (m := 3) (n := body.length + 4), hcovered]
  exact beq_iff_eq.mpr hcrc

theorem byteAt_frameOf_kind (kind tag : U8) (body : Bytes) : byteAt (frameOf kind tag body) 3 = kind := rfl

theorem byteAt_frameOf_tag (kind tag : U8) (body : Bytes) : byteAt (frameOf kind tag body) 4 = tag := rfl

theorem frameBody_frameOf (kind tag : U8) (body : Bytes) : frameBody (frameOf kind tag body) = body := by
  have hdrop : (frameOf kind tag body).drop 5 = body ++ le 2 (crc16 (frameInner kind tag body)).toNat := rfl
  rw [frameBody, hdrop, frameOf_length]
  exact List.take_left' rfl

/-! ### A frame of a terminal (R92, R178) -/

theorem radioFrame_length (kind : U8) (body : Bytes) : (radioFrame kind body).length = body.length + 3 := by
  simp [radioFrame]

theorem uplinkCrcGood_radioFrame (kind : U8) (body : Bytes) : uplinkCrcGood (radioFrame kind body) = true := by
  have hcovered : (radioFrame kind body).take (body.length + 1) = kind :: body := List.take_left' (l₁ := kind :: body) rfl
  have hcrc : field16 (radioFrame kind body) (body.length + 1) = crc16 (kind :: body) := by
    rw [radioFrame, field16_cons, ← Nat.zero_add body.length, field16_append _ 0 rfl, field16_le_end]
  rw [uplinkCrcGood, radioFrame_length, Nat.add_sub_cancel_right (m := 2) (n := body.length + 1), hcovered]
  exact beq_iff_eq.mpr hcrc

/-- A message of the lengths R178 gives is the one its frame spells. -/
theorem readUplink_frame {m : UplinkMessage} (h : m.good = true) : readUplink m.frame = some m := by
  cases m with
  | wake id =>
    have hl : id.length = 8 := beq_iff_eq.mp h
    simp [UplinkMessage.frame, UplinkMessage.kind, UplinkMessage.body, radioFrame, readUplink, hl, fieldBytes_front _ hl]
  | echo pattern =>
    have hl : pattern.length = 32 := beq_iff_eq.mp h
    simp [UplinkMessage.frame, UplinkMessage.kind, UplinkMessage.body, radioFrame, readUplink, hl, fieldBytes_front _ hl]
  | present share part tipKind tipValue token method tag =>
    rw [UplinkMessage.good, Bool.and_eq_true] at h
    have hl : token.length = 16 := beq_iff_eq.mp h.2
    simp [UplinkMessage.frame, UplinkMessage.kind, UplinkMessage.body, radioFrame, readUplink, hl, fieldBytes_front _ hl,
      byteAt_append _ 0 hl, byteAt_append _ 1 hl]
  | _ => simp [UplinkMessage.frame, UplinkMessage.kind, UplinkMessage.body, radioFrame, readUplink]

theorem goodUplink_frame {m : UplinkMessage} (h : m.good = true) : goodUplink m.frame = some m := by
  have hcrc : uplinkCrcGood m.frame = true := uplinkCrcGood_radioFrame ..
  have hl : m.frame.length = m.body.length + 3 := radioFrame_length ..
  rw [goodUplink, if_neg (by simp [hcrc, hl]), readUplink_frame h]
  exact if_pos h

end Sys2Proof.Machine

open Sys2Proof Sys2Proof.Machine

/-- Settles O7: the fields of a frame are read at the offsets they were written to. -/
theorem framesReadBack : Obligations.FramesReadBack := by
  refine ⟨fun c tag h => ?_, fun m h => goodUplink_frame h⟩
  exact ⟨frameCrcGood_frameOf .., byteAt_frameOf_kind .., byteAt_frameOf_tag .., knownKind_kind c, frameBody_frameOf ..,
    readCommand_body h⟩
end

section
/-! A terminal's frame at its slot: when it is heard, the echo turn it uses up, the frame that fails its tests (R91, R92, R112). -/

namespace Sys2Proof.Machine

open Sys2Proof

section
variable {s : State} {i : Slot}

theorem exec_radioRow (s : State) (i : Slot) (m : UplinkMessage) : exec (radioRow i m) s = .next (s.uplinkTurn i m) := by
  cases m <;> rfl

/-! ### When a frame is heard -/

theorem State.hears_eq_false (h : s.live = false ∨ s.slotEnabled i = false ∨ s.run.state = .halted) : s.hears i = false := by
  refine Bool.eq_false_iff.mpr fun hh => ?_
  obtain ⟨hlive, henabled, hrun⟩ := State.hears_iff.mp hh
  rcases h with h | h | h
  · simp [h] at hlive
  · simp [h] at henabled
  · exact hrun h

theorem State.uplinkTurn_deaf (m : UplinkMessage) (h : s.hears i = false) : s.uplinkTurn i m = s := if_pos (by simp [h])

theorem State.uplinkTurn_good {m : UplinkMessage} (h : s.hears i = true) (hg : m.good = true) :
    s.uplinkTurn i m = s.takeMessage i m := by
  rw [State.uplinkTurn, if_neg (by simp [h]), if_pos hg]

theorem State.uplinkTurn_bad {m : UplinkMessage} (h : s.hears i = true) (hg : m.good = false) :
    s.uplinkTurn i m = s.badFrame i m.frame := by
  rw [State.uplinkTurn, if_neg (by simp [h]), if_neg (by simp [hg])]

theorem exec_badUplinkFrame_deaf (f : Bytes) (h : s.hears i = false) : exec (.badUplinkFrame i f) s = .next s :=
  congrArg Host.Outcome.next (if_pos (by simp [h]))

theorem exec_badUplinkFrame_good {f : Bytes} {m : UplinkMessage} (h : s.hears i = true) (hf : goodUplink f = some m) :
    exec (.badUplinkFrame i f) s = .next (s.takeMessage i m) := by
  show execBadUplinkFrame i f s = _
  rw [execBadUplinkFrame, if_neg (by simp [h]), hf]

theorem exec_badUplinkFrame_bad {f : Bytes} (h : s.hears i = true) (hf : goodUplink f = none) :
    exec (.badUplinkFrame i f) s = .next (s.badFrame i f) := by
  show execBadUplinkFrame i f s = _
  rw [execBadUplinkFrame, if_neg (by simp [h]), hf]

theorem exec_echoTurn (h : s.hears i = true) : exec (.echoTurn i) s = .next (s.withSlot i (s.slot i).missEcho) :=
  congrArg Host.Outcome.next (if_pos h)

theorem exec_echoTurn_deaf (h : s.hears i = false) : exec (.echoTurn i) s = .next s :=
  congrArg Host.Outcome.next (if_neg (by simp [h]))

/-- A bad frame uses up an echo turn and raises its fault (R92, R112). -/
theorem State.badFrame_faulted (f : Bytes) (h : s.admits .radioFrameBad) :
    s.badFrame i f = (s.withSlot i (s.slot i).missEcho).faulted .radioFrameBad (.slot i) f :=
  State.raise_faulted (s := s.withSlot i (s.slot i).missEcho) _ _ h

/-! ### Echo turns -/

theorem SlotEntry.missEcho_due {e : SlotEntry} {r : BitVec 15} (h : e.echoDue = some r) :
    e.missEcho = { e with missedEchoes := min 255 (e.missedEchoes + 1), echoDue := none } := by
  rw [SlotEntry.missEcho, h]

theorem SlotEntry.missEcho_none {e : SlotEntry} (h : e.echoDue = none) : e.missEcho = e := by
  rw [SlotEntry.missEcho, h]

@[simp] theorem SlotEntry.missEcho_echoDue (e : SlotEntry) : e.missEcho.echoDue = none := by
  unfold SlotEntry.missEcho
  split
  · rfl
  · assumption

@[simp] theorem SlotEntry.missEcho_missEcho (e : SlotEntry) : e.missEcho.missEcho = e.missEcho :=
  SlotEntry.missEcho_none e.missEcho_echoDue

/-- A missed echo changes its counter and its mark alone. -/
theorem SlotEntry.missEcho_frame (e : SlotEntry) :
    e.missEcho = { e with missedEchoes := e.missEcho.missedEchoes, echoDue := none } := by
  unfold SlotEntry.missEcho
  split
  · rfl
  · rename_i h
    rw [← h]

@[simp] theorem SlotEntry.missEcho_presence (e : SlotEntry) : e.missEcho.presence = e.presence := by rw [e.missEcho_frame]

@[simp] theorem SlotEntry.missEcho_mode (e : SlotEntry) : e.missEcho.mode = e.mode := by rw [e.missEcho_frame]

/-- The bits counted are those in which the two strings differ (R112). -/
theorem SlotEntry.takeEcho_due {e : SlotEntry} {r : BitVec 15} (pattern : Bytes) (h : e.echoDue = some r) :
    e.takeEcho pattern = { e with
      errorBits := min 65535 (e.errorBits +
        ((pattern.zip (patternBytes 32 r)).map fun x => ((List.range 8).filter fun k => (x.1 ^^^ x.2).getLsbD k).length).sum)
      echoDue := none } := by
  rw [SlotEntry.takeEcho, h, List.zip, List.map_zipWith]
  rfl

theorem SlotEntry.takeEcho_none {e : SlotEntry} (pattern : Bytes) (h : e.echoDue = none) : e.takeEcho pattern = e := by
  rw [SlotEntry.takeEcho, h]

@[simp] theorem State.withSlot_withSlot (s : State) (i : Slot) (e e' : SlotEntry) :
    (s.withSlot i e).withSlot i e' = s.withSlot i e' := s.putSlot_putSlot i e e'

/-- A good frame of another kind than ECHO uses an echo turn up (R112). -/
theorem State.useEchoTurn_eq {m : UplinkMessage} (s : State) (i : Slot) (hm : m.kind ≠ 0x06) :
    s.useEchoTurn i m = s.withSlot i (s.slot i).missEcho := by
  cases m with
  | echo => exact absurd rfl hm
  | _ => rfl

/-- A good frame from a slot that is not LOST changes no presence of its own (R95). -/
theorem State.takeMessage_found {m : UplinkMessage} (h : (s.slot i).presence ≠ .lost) :
    s.takeMessage i m = (s.useEchoTurn i m).handleMessage i m := by
  have hkept : ((s.useEchoTurn i m).slot i).presence = (s.slot i).presence := by
    cases m with
    | echo => rfl
    | _ => simp [State.useEchoTurn]
  rw [State.takeMessage, State.foundAgain, if_neg (by rwa [hkept])]

/-- A frame that is no ECHO does what it does once the echo turn has been missed. -/
theorem State.uplinkTurn_missed {m : UplinkMessage} (hears : s.hears i = true) (hp : (s.slot i).presence ≠ .lost)
    (hm : m.kind ≠ 0x06) :
    s.uplinkTurn i m = (s.withSlot i (s.slot i).missEcho).uplinkTurn i m := by
  have hears' : (s.withSlot i (s.slot i).missEcho).hears i = true := hears
  have hp' : ((s.withSlot i (s.slot i).missEcho).slot i).presence ≠ .lost := by simpa using hp
  cases hg : m.good with
  | true =>
    rw [State.uplinkTurn_good hears hg, State.uplinkTurn_good hears' hg, State.takeMessage_found hp, State.takeMessage_found hp',
      State.useEchoTurn_eq s i hm, State.useEchoTurn_eq _ i hm]
    simp
  | false =>
    rw [State.uplinkTurn_bad hears hg, State.uplinkTurn_bad hears' hg]
    simp [State.badFrame, State.putSlot_eq_withSlot]

end
end Sys2Proof.Machine

open Sys2Proof Sys2Proof.Machine

/-- Settles O39: a frame that is not heard does nothing; one that is heard is taken or is bad. -/
theorem radioFramesGated : Obligations.RadioFramesGated := by
  intro s i m f
  refine ⟨fun h => ?_, fun hlive henabled hrun => ?_⟩
  · have hdeaf : s.hears i = false := State.hears_eq_false h
    exact ⟨by rw [exec_radioRow, State.uplinkTurn_deaf m hdeaf], exec_badUplinkFrame_deaf f hdeaf, exec_echoTurn_deaf hdeaf⟩
  · have hears : s.hears i = true := State.hears_iff.mpr ⟨hlive, henabled, hrun⟩
    refine ⟨fun hg => ?_, fun hg hadm => ?_, fun hf hadm => ?_⟩
    · rw [exec_badUplinkFrame_good hears (goodUplink_frame hg), exec_radioRow, State.uplinkTurn_good hears hg]
    · rw [exec_radioRow, State.uplinkTurn_bad hears hg, State.badFrame_faulted _ hadm]
    · rw [exec_badUplinkFrame_bad hears hf, State.badFrame_faulted _ hadm]

/-- Settles O42: the echo turn is counted by `takeEcho` or `missEcho`, and any other frame finds it missed. -/
theorem echoTurnsCounted : Obligations.EchoTurnsCounted := by
  intro s i pattern hears hp hl e
  have hecho : exec (.echo i pattern) s = .next (s.withSlot i (e.takeEcho pattern)) := by
    show Host.Outcome.next (s.uplinkTurn i (.echo pattern)) = _
    rw [State.uplinkTurn_good (m := .echo pattern) hears (beq_iff_eq.mpr hl), State.takeMessage_found hp]
    rfl
  refine ⟨fun r hr => ⟨?_, ?_, fun m hm => ?_⟩, fun hn => ⟨?_, ?_⟩⟩
  · rw [hecho, SlotEntry.takeEcho_due pattern hr]
  · rw [exec_echoTurn hears, SlotEntry.missEcho_due hr]
  · rw [exec_radioRow, exec_radioRow, State.uplinkTurn_missed hears hp hm, SlotEntry.missEcho_due hr]
  · rw [hecho, SlotEntry.takeEcho_none pattern hn, State.withSlot_self]
  · rw [exec_echoTurn hears, SlotEntry.missEcho_none hn, State.withSlot_self]
end

section
/-! A terminal's messages by the mode of its slot, its presence, and its downlink turn (R94 to R103, R110, R113). -/

namespace Sys2Proof.Machine

open Sys2Proof

section
variable {s : State} {i : Slot}

theorem exec_quiet {m : UplinkMessage} (h : s.quietSlot i) (hg : m.good = true) :
    exec (radioRow i m) s = .next (s.handleMessage i m) := by
  rw [exec_radioRow, State.uplinkTurn_quiet m h hg]

/-! ### Presence (R95, R96) -/

/-- The SLOT PRESENCE of a slot that has moved to a presence (R96). -/
def SlotEntry.presenceNotices (e : SlotEntry) (i : Slot) (p : Presence) (id : Option Bytes) : List Frame :=
  match e.mode with
  | .routed (.bound n) => [slotPresenceNotice i p id n (e.inFlight.getD 0)]
  | .routed .idle | .routed (.message _) | .routed .muted | .probe _ => []

theorem SlotEntry.presenceNotices_bound {e : SlotEntry} {n : Nat} (p : Presence) (id : Option Bytes)
    (h : e.mode = .routed (.bound n)) : e.presenceNotices i p id = [slotPresenceNotice i p id n (e.inFlight.getD 0)] := by
  rw [SlotEntry.presenceNotices, h]

theorem SlotEntry.presenceNotices_unbound {e : SlotEntry} (p : Presence) (id : Option Bytes)
    (h : ∀ n, e.mode ≠ .routed (.bound n)) : e.presenceNotices i p id = [] := by
  cases hm : e.mode with
  | probe => rw [SlotEntry.presenceNotices, hm]
  | routed m =>
    cases m with
    | bound n => exact absurd hm (h n)
    | _ => rw [SlotEntry.presenceNotices, hm]

/-- A slot entry replaced and notices queued: what an event at one slot leaves. -/
def State.slotTold (s : State) (i : Slot) (e : SlotEntry) (notices : List Frame) : State :=
  { s.withSlot i e with line := { s.line with queue := s.line.queue ++ notices } }

@[simp] theorem State.slotTold_slot (s : State) (i : Slot) (e : SlotEntry) (notices : List Frame) :
    (s.slotTold i e notices).slot i = e := s.slot_withSlot_same i e

@[simp] theorem State.slotTold_nil (s : State) (i : Slot) (e : SlotEntry) : s.slotTold i e [] = s.withSlot i e := by
  simp [State.slotTold, State.withSlot]

@[simp] theorem State.slotTold_slotTold (s : State) (i : Slot) (e e' : SlotEntry) (a b : List Frame) :
    (s.slotTold i e a).slotTold i e' b = s.slotTold i e' (a ++ b) := by
  simp [State.slotTold, State.withSlot]

@[simp] theorem State.slotTold_putSlot (s : State) (i : Slot) (e e' : SlotEntry) (a : List Frame) :
    (s.slotTold i e a).putSlot i e' = s.slotTold i e' a := by
  simp [State.slotTold, State.putSlot_eq_withSlot, State.withSlot]

@[simp] theorem State.putSlot_slotTold (s : State) (i : Slot) (e e' : SlotEntry) (a : List Frame) :
    (s.putSlot i e).slotTold i e' a = s.slotTold i e' a := by
  simpa [State.putSlot_eq_withSlot] using s.slotTold_slotTold i e e' [] a

/-- A presence change with room in the queue (R96). -/
theorem State.movePresence_told {p : Presence} {id : Option Bytes} (h : (s.slot i).presence ≠ p) (hp : s.line.places < 56) :
    s.movePresence i p id = s.slotTold i { s.slot i with presence := p } ((s.slot i).presenceNotices i p id) := by
  rw [State.movePresence_eq h hp]
  rfl

@[simp] theorem State.slotTold_places (s : State) (i : Slot) (e : SlotEntry) (notices : List Frame) :
    (s.slotTold i e notices).line.places = s.line.places + notices.length := by
  simp [State.slotTold, ServerLine.places]
  omega

/-! ### A probe that ends, and a range report (R95, R113) -/

theorem State.endProbe_routed {m : RouteMode} (early : Bool) (h : (s.slot i).mode = .routed m) : s.endProbe early i = s := by
  rw [State.endProbe, h]

theorem State.endProbe_probe {m : RouteMode} (early : Bool) (h : (s.slot i).mode = .probe m) (hp : s.line.places < 56) :
    s.endProbe early i = s.slotTold i ((s.slot i).restored m) [probeResultNotice i (s.slot i) early] := by
  rw [State.endProbe, h]
  dsimp only
  rw [State.offer_room _ _ hp]
  rfl

section
variable (hlive : s.live = true) (henabled : s.slotEnabled i = true)
include hlive henabled

theorem exec_presenceReport_same {b : Bool} (h : (s.slot i).presence = .absent ∨
    ((s.slot i).presence = .present ∧ b = true) ∨ ((s.slot i).presence = .lost ∧ b = false)) :
    exec (.presenceReport i b) s = .next s := by
  show Host.Outcome.next (s.presenceReport i b) = _
  rcases h with h | ⟨h, rfl⟩ | ⟨h, rfl⟩ <;> simp [State.presenceReport, hlive, henabled, h]

theorem exec_presenceReport_lost (h : (s.slot i).presence = .present) :
    exec (.presenceReport i false) s = .next ((s.endProbe true i).movePresence i .lost (s.slot i).terminalId) := by
  show Host.Outcome.next (s.presenceReport i false) = _
  simp [State.presenceReport, hlive, henabled, h]

theorem exec_presenceReport_found (h : (s.slot i).presence = .lost) :
    exec (.presenceReport i true) s = .next (s.movePresence i .present (s.slot i).terminalId) := by
  show Host.Outcome.next (s.presenceReport i true) = _
  simp [State.presenceReport, hlive, henabled, h]

end

/-- A good frame that is no WAKE, from a LOST slot with no echo turn open: the slot is PRESENT before it is handled (R95). -/
theorem State.takeMessage_lost {m : UplinkMessage} (h : (s.slot i).presence = .lost) (hm : m.kind ≠ 0x01)
    (hecho : (s.slot i).echoDue = none) :
    s.takeMessage i m = (s.movePresence i .present (s.slot i).terminalId).handleMessage i m := by
  have huse : s.useEchoTurn i m = s := by
    cases m with
    | echo => rfl
    | _ => exact (congrArg (s.putSlot i) (SlotEntry.missEcho_none hecho)).trans (s.putSlot_self i)
  have hid : noticeId (s.slot i) m = (s.slot i).terminalId := by
    cases m with
    | wake => exact absurd rfl hm
    | _ => rfl
  rw [State.takeMessage, huse, State.foundAgain, if_pos h, hid]

/-! ### WAKE (R94) -/

/-- A slot entry after WAKE, its display apart (R94). -/
def SlotEntry.woken (e : SlotEntry) (id : Bytes) : SlotEntry := { e with terminalId := some id, presence := .present }

/-- The SLOT PRESENCE of a WAKE from a slot that was not PRESENT (R94, R96). -/
def SlotEntry.wakeNotices (e : SlotEntry) (i : Slot) (id : Bytes) : List Frame :=
  if e.presence = .present then [] else e.presenceNotices i .present (some id)

theorem State.movePresence_wake (id : Bytes) (hp : s.line.places < 56) :
    (s.putSlot i { s.slot i with terminalId := some id }).movePresence i .present (some id) =
      s.slotTold i ((s.slot i).woken id) ((s.slot i).wakeNotices i id) := by
  by_cases h : (s.slot i).presence = .present
  · have hwoken : (s.slot i).woken id = { s.slot i with terminalId := some id } := by rw [SlotEntry.woken, ← h]
    rw [State.movePresence, if_pos (by simpa using h), SlotEntry.wakeNotices, if_pos h, hwoken, State.slotTold_nil]
    rfl
  · have hkept : ((s.putSlot i { s.slot i with terminalId := some id }).slot i).presence ≠ .present := by simpa using h
    refine (State.movePresence_told hkept hp).trans ?_
    rw [State.slot_putSlot_same, SlotEntry.wakeNotices, if_neg h, State.putSlot_slotTold]
    rfl

theorem State.takeWake_routed {m : RouteMode} (id : Bytes) (hm : (s.slot i).mode = .routed m) (hp : s.line.places < 56) :
    s.takeWake i id = s.slotTold i (((s.slot i).woken id).placeMode s.checks m) ((s.slot i).wakeNotices i id) := by
  have hmode : ((s.slot i).woken id).mode = .routed m := hm
  simp only [State.takeWake, s.movePresence_wake id hp, State.slotTold_slot, hmode, State.slotTold_putSlot]
  rfl

theorem State.takeWake_probe {m : RouteMode} (id : Bytes) (hm : (s.slot i).mode = .probe m) (hp : s.line.places < 56) :
    s.takeWake i id = s.slotTold i ((s.slot i).woken id) ((s.slot i).wakeNotices i id) := by
  have hmode : ((s.slot i).woken id).mode = .probe m := hm
  simp only [State.takeWake, s.movePresence_wake id hp, State.slotTold_slot, hmode]

/-- The display of a mode, placed at a slot that is not MUTED (R97; section 5.2). -/
theorem SlotEntry.placeMode_shown {e : SlotEntry} {checks : List Check} {m : RouteMode} {d : Display}
    (hd : modeDisplay checks m = some d) (hm : e.mode ≠ .routed .muted) :
    e.placeMode checks m = { e with display := some (e.displayNumber, d), nextItem := itemAfter e.displayNumber } := by
  rw [SlotEntry.placeMode, hd]
  exact SlotEntry.placeDisplay_open d hm

end
end Sys2Proof.Machine

open Sys2Proof Sys2Proof.Machine

/-- Settles O40: the id and the presence first, then the display of the mode. -/
theorem wakeTaken : Obligations.WakeTaken := by
  intro s i id hquiet hl hplaces e e1 shown
  have hp : s.line.places < 56 := by omega
  have hexec : exec (.wake i id) s = .next (s.takeWake i id) := exec_quiet (m := .wake id) hquiet (beq_iff_eq.mpr hl)
  have hsilent : (∀ n, e.mode ≠ .routed (.bound n)) → e.wakeNotices i id = [] := fun h => by
    rw [SlotEntry.wakeNotices, SlotEntry.presenceNotices_unbound _ _ h, ite_self]
  have hshown : ∀ {m : RouteMode} {d : Display}, e.mode = .routed m → modeDisplay s.checks m = some d → m ≠ .muted →
      s.takeWake i id = s.slotTold i (shown d) (e.wakeNotices i id) := fun {m d} hm hd hopen => by
    rw [State.takeWake_routed id hm hp, SlotEntry.placeMode_shown hd (by rw [SlotEntry.woken, hm]; simpa using hopen)]
    rfl
  refine ⟨fun hm => ?_, fun t hm => ?_, fun hm => ?_, fun m hm => ?_, fun n c hm hc => ?_⟩
  · rw [hexec, hshown hm rfl (by simp), hsilent (by simp [hm]), State.slotTold_nil]
  · rw [hexec, hshown hm rfl (by simp), hsilent (by simp [hm]), State.slotTold_nil]
  · rw [hexec, State.takeWake_routed id hm hp, hsilent (by simp [hm]), State.slotTold_nil]
    rfl
  · rw [hexec, State.takeWake_probe id hm hp, hsilent (by simp [hm]), State.slotTold_nil]
    rfl
  · have hd : modeDisplay s.checks (.bound n) = some (.text textCheck n c.table) := by
      rw [modeDisplay, show findCheck s.checks n = some c from hc]
      rfl
    rw [hexec, hshown hm hd (by simp), SlotEntry.wakeNotices, SlotEntry.presenceNotices_bound _ _ hm]
    rfl

/-- Settles O43: a range report and a good frame from a LOST slot each move the presence once. -/
theorem presenceMoves : Obligations.PresenceMoves := by
  intro s i hlive henabled hplaces e told moved
  have hp : s.line.places < 56 := by omega
  have htold : ∀ p, told e.mode p = e.presenceNotices i p e.terminalId := fun p => by
    rfl
  refine ⟨fun h b => ?_, fun h => ?_, fun h => ?_, fun h => ?_, fun m h hm => ?_, fun m h hm => ?_,
    fun m h hrun hg hk hecho => ?_⟩
  · exact exec_presenceReport_same hlive henabled (.inl h)
  · exact exec_presenceReport_same hlive henabled (.inr (.inl ⟨h, rfl⟩))
  · exact exec_presenceReport_same hlive henabled (.inr (.inr ⟨h, rfl⟩))
  · have hne : e.presence ≠ .present := by simp [h]
    rw [exec_presenceReport_found hlive henabled h, State.movePresence_told hne hp, htold]
    rfl
  · have hne : e.presence ≠ .lost := by simp [h]
    rw [exec_presenceReport_lost hlive henabled h, State.endProbe_routed true hm, State.movePresence_told hne hp, htold]
    rfl
  · have hne : (e.restored m).presence ≠ .lost := by simp [SlotEntry.restored, h]
    have hend := State.endProbe_probe true hm hp
    have hmove : (s.endProbe true i).movePresence i .lost e.terminalId = s.slotTold i { e.restored m with presence := .lost }
        ([probeResultNotice i e true] ++ (e.restored m).presenceNotices i .lost e.terminalId) := by
      rw [hend, State.movePresence_told (by simpa using hne) (by simp; omega), State.slotTold_slot, State.slotTold_slotTold]
    rw [exec_presenceReport_lost hlive henabled h, hmove]
    rfl
  · have hears : s.hears i = true := State.hears_iff.mpr ⟨hlive, henabled, hrun⟩
    have hne : e.presence ≠ .present := by simp [h]
    have hmoved : moved { e with presence := .present } (told e.mode .present) =
        s.slotTold i { e with presence := .present } (e.presenceNotices i .present e.terminalId) := by
      rw [htold]
      rfl
    have hquiet : (s.slotTold i { e with presence := .present } (e.presenceNotices i .present e.terminalId)).quietSlot i :=
      ⟨hears, by simp, by simpa using hecho⟩
    rw [hmoved, exec_quiet hquiet hg, exec_radioRow, State.uplinkTurn_good hears hg, State.takeMessage_lost h hk hecho,
      State.movePresence_told hne hp]
end

section
/-! PICK, PRESENT, CANCEL and ACK by the mode of the slot, and its downlink turn (R98 to R103, R110, R111). -/

namespace Sys2Proof.Machine

open Sys2Proof

section
variable {s : State} {i : Slot}

/-- A good PRESENT of a quiet slot is handed on by the slot's mode (R92). -/
theorem exec_present_handed {share : U8} {part : U32} {tipKind : U8} {tipValue : U32} {token : Bytes} {method tag : U8}
    (h : s.quietSlot i) (hg : (UplinkMessage.present share part tipKind tipValue token method tag).good = true) :
    ∃ p : Presentment, exec (.present i share part tipKind tipValue token method tag) s = .next (s.handPresent i p) := by
  obtain ⟨m, hm⟩ := present_method hg
  refine ⟨presentmentOf share part tipKind tipValue token m tag, ?_⟩
  have hexec := exec_quiet h hg
  rw [State.handleMessage, hm] at hexec
  exact hexec

theorem State.handPresent_idle (p : Presentment) (h : (s.slot i).mode = .routed .idle) :
    s.handPresent i p = s.placeDisplay i (.text textNotAssigned 0 0) := by
  rw [State.handPresent, h]

theorem State.handPresent_ignored (p : Presentment)
    (h : (s.slot i).mode = .routed .muted ∨ ∃ t, (s.slot i).mode = .routed (.message t)) :
    s.handPresent i p = s := by
  rcases h with h | ⟨t, h⟩ <;> rw [State.handPresent, h]

theorem State.takePick_bound {n : Nat} {c : Check} (h : (s.slot i).mode = .routed (.bound n)) (hc : s.check n = some c) :
    s.takePick i = s.placeDisplay i c.sharesDisplay := by
  simp only [State.takePick, h, hc]

theorem State.takePick_idle (h : (s.slot i).mode = .routed .idle) :
    s.takePick i = s.placeDisplay i (.text textNotAssigned 0 0) := by
  rw [State.takePick, h]

/-- PICK and CANCEL are ignored in MESSAGE, MUTED and PROBE (R102, R103, R110). -/
theorem State.takePick_ignored (h : (s.slot i).mode = .routed .muted ∨ (∃ t, (s.slot i).mode = .routed (.message t)) ∨
    ∃ m, (s.slot i).mode = .probe m) : s.takePick i = s := by
  rcases h with h | ⟨t, h⟩ | ⟨m, h⟩ <;> rw [State.takePick, h]

theorem State.handCancel_unbound (tag : U8) (h : ∀ n, (s.slot i).mode ≠ .routed (.bound n)) : s.handCancel i tag = s := by
  rw [State.handCancel]
  split
  · rename_i n hm
    exact absurd hm (h n)
  all_goals rfl

/-! ### ACK (R99) -/

theorem State.takeAck_muted (item : Nat) (h : (s.slot i).mode = .routed .muted) : s.takeAck i item = s := if_pos h

theorem State.takeAck_open (item : Nat) (h : (s.slot i).mode ≠ .routed .muted) :
    s.takeAck i item = s.withSlot i ((s.slot i).acknowledge item) := if_neg h

theorem SlotEntry.acknowledge_outcome {e : SlotEntry} {item : Nat} (h : e.outcome.map Prod.fst = some item) :
    e.acknowledge item = { e with outcome := none } := if_pos h

theorem SlotEntry.acknowledge_display {e : SlotEntry} {item : Nat} (h : e.outcome.map Prod.fst ≠ some item)
    (hd : e.display.map Prod.fst = some item) : e.acknowledge item = { e with display := none } := by
  rw [SlotEntry.acknowledge, if_neg h, if_pos hd]

theorem SlotEntry.acknowledge_stale {e : SlotEntry} {item : Nat} (h : e.outcome.map Prod.fst ≠ some item)
    (hd : e.display.map Prod.fst ≠ some item) : e.acknowledge item = e := by
  rw [SlotEntry.acknowledge, if_neg h, if_neg hd]

/-! ### The downlink turn (R98) -/

theorem exec_downlinkTurn_deaf (hlive : s.live = true) (h : s.hears i = false) :
    exec (.downlinkTurn i) s = .next (s.withSlot i { s.slot i with downlink := none }) := by
  show Host.Outcome.next (s.downlinkTurn i) = _
  rw [State.downlinkTurn, if_neg (by simp [hlive]), if_neg (by simp [h]), State.putSlot_eq_withSlot]

theorem exec_downlinkTurn_heard (h : s.hears i = true) :
    exec (.downlinkTurn i) s =
      .next (s.withSlot i { ((s.slot i).downlinkFrame i).1 with downlink := ((s.slot i).downlinkFrame i).2 }) := by
  have hlive : s.live = true := (State.hears_iff.mp h).1
  show Host.Outcome.next (s.downlinkTurn i) = _
  rw [State.downlinkTurn, if_neg (by simp [hlive]), if_pos h]
  rfl

section
variable {e : SlotEntry}

theorem SlotEntry.probing_iff : e.probing = true ↔ ∃ m, e.mode = .probe m := by
  cases hm : e.mode <;> simp [SlotEntry.probing, hm]

theorem SlotEntry.probeReady_iff : e.probeReady = true ↔
    (∃ m, e.mode = .probe m) ∧ e.armed = true ∧ e.framesSent < e.framesToSend ∧ e.sentNow = none := by
  simp [SlotEntry.probeReady, SlotEntry.probing_iff, and_assoc]

theorem SlotEntry.downlinkFrame_muted (h : e.mode = .routed .muted) : e.downlinkFrame i = (e, none) := if_pos h

theorem SlotEntry.downlinkFrame_probe (h : e.probeReady = true) : e.downlinkFrame i =
    ({ e with framesSent := e.framesSent + 1, sentNow := some e.pattern, pattern := lfsrAfter 256 e.pattern },
      some (radioFrame 0x85 (le 1 (e.framesSent + 1) ++ patternBytes 32 e.pattern))) := by
  obtain ⟨⟨m, hm⟩, -⟩ := SlotEntry.probeReady_iff.mp h
  rw [SlotEntry.downlinkFrame, if_neg (by simp [hm]), if_pos h]

theorem SlotEntry.downlinkFrame_standby (hm : e.mode ≠ .routed .muted) (hr : ¬e.probeReady = true)
    (h : e.presence ≠ .present ∨ e.probing = true) : e.downlinkFrame i = (e, some (standbyFrame i e)) := by
  rw [SlotEntry.downlinkFrame, if_neg hm, if_neg hr, if_pos h]

/-- A PRESENT slot in a route mode is handed its outcome, else its display, else STANDBY (R98). -/
theorem SlotEntry.downlinkFrame_item {m : RouteMode} (hmuted : e.mode ≠ .routed .muted) (hp : e.presence = .present)
    (hm : e.mode = .routed m) : e.downlinkFrame i = (e, some
      (match e.outcome, e.display with
      | some (n, o), _ => radioFrame 0x81 (o.body n)
      | none, some (n, d) => radioFrame d.kind (d.body n)
      | none, none => standbyFrame i e)) := by
  have hprobing : e.probing = false := by simp [SlotEntry.probing, hm]
  have hready : ¬e.probeReady = true := by simp [SlotEntry.probeReady, hprobing]
  rw [SlotEntry.downlinkFrame, if_neg hmuted, if_neg hready, if_neg (by simp [hp, hprobing])]
  cases e.outcome with
  | some => rfl
  | none => cases e.display <;> rfl

end
end
end Sys2Proof.Machine

open Sys2Proof Sys2Proof.Machine

/-- Settles O41: each message goes to its handler, whose case is the slot's mode. -/
theorem terminalFramesTaken : Obligations.TerminalFramesTaken := by
  constructor
  · intro s i share part tipKind tipValue token method tag hquiet hg e present shown
    have hpick : exec (.pick i) s = .next (s.takePick i) := exec_quiet (m := .pick) hquiet rfl
    have hcancel : (∀ n, e.mode ≠ .routed (.bound n)) → exec (.cancel i tag) s = .next s := fun h =>
      (exec_quiet (m := .cancel tag) hquiet rfl).trans (congrArg _ (State.handCancel_unbound tag h))
    have hshown : ∀ {m d}, e.mode = .routed m → m ≠ .muted → s.placeDisplay i d = s.withSlot i (shown d) := fun hm hopen =>
      State.placeDisplay_open _ fun h => hopen (SlotMode.routed.inj (hm.symm.trans h))
    obtain ⟨p, hpresent⟩ := exec_present_handed hquiet hg
    refine ⟨fun n c hm hc => ?_, fun hm => ⟨?_, ?_, ?_⟩, fun hm => ⟨?_, ?_, ?_⟩, fun m hm => ⟨?_, ?_⟩⟩
    · intro view
      rw [hpick, State.takePick_bound hm hc, hshown hm (by simp)]
      rfl
    · rw [hpick, State.takePick_idle hm, hshown hm (by simp)]
    · rw [hpresent, State.handPresent_idle p hm, hshown hm (by simp)]
    · exact hcancel (by simp [hm])
    · rw [hpick, State.takePick_ignored (hm.imp_right .inl)]
    · rw [hpresent, State.handPresent_ignored p hm]
    · exact hcancel (by rcases hm with hm | ⟨t, hm⟩ <;> simp [hm])
    · rw [hpick, State.takePick_ignored (.inr (.inr ⟨m, hm⟩))]
    · exact hcancel (by simp [hm])
  · intro s i item hquiet e
    have hack : exec (.ack i item) s = .next (s.takeAck i item.toNat) := exec_quiet (m := .ack item) hquiet rfl
    refine ⟨fun hm => ?_, fun hm => ⟨fun o ho => ?_, fun d ho hd => ?_, fun ho hd => ?_⟩⟩
    · rw [hack, State.takeAck_muted _ hm]
    · rw [hack, State.takeAck_open _ hm, SlotEntry.acknowledge_outcome (by rw [ho]; rfl)]
    · rw [hack, State.takeAck_open _ hm, SlotEntry.acknowledge_display ho (by rw [hd]; rfl)]
    · rw [hack, State.takeAck_open _ hm, SlotEntry.acknowledge_stale ho hd, State.withSlot_self]

/-- Settles O44: the lines of R98 in their order. -/
theorem downlinkTurnSends : Obligations.DownlinkTurnSends := by
  intro s i hlive e standby probes sends
  have hsends : ∀ {f : Option Bytes}, s.hears i = true → e.downlinkFrame i = (e, f) → sends f := fun {f} hears hf => by
    show exec (.downlinkTurn i) s = _
    rw [exec_downlinkTurn_heard hears, hf]
  refine ⟨fun h => ?_, fun henabled hrun hmuted => ?_⟩
  · cases hears : s.hears i with
    | false => exact exec_downlinkTurn_deaf hlive hears
    | true =>
      obtain ⟨-, henabled, hrun⟩ := State.hears_iff.mp hears
      have hmuted : e.mode = .routed .muted := (h.resolve_left (by simp [henabled])).resolve_left hrun
      exact hsends hears (SlotEntry.downlinkFrame_muted hmuted)
  · have hears : s.hears i = true := State.hears_iff.mpr ⟨hlive, henabled, hrun⟩
    refine ⟨fun h => ?_, fun h hstandby => ?_, fun m hp hm => ⟨fun n o ho => ?_, fun n d ho hd => ?_, fun ho hd => ?_⟩⟩
    · rw [exec_downlinkTurn_heard hears, SlotEntry.downlinkFrame_probe (SlotEntry.probeReady_iff.mpr h)]
    · exact hsends hears (SlotEntry.downlinkFrame_standby hmuted (mt SlotEntry.probeReady_iff.mp h)
        (hstandby.imp_right SlotEntry.probing_iff.mpr))
    · exact hsends hears (by rw [SlotEntry.downlinkFrame_item hmuted hp hm, ho])
    · exact hsends hears (by rw [SlotEntry.downlinkFrame_item hmuted hp hm, ho, hd])
    · exact hsends hears (by rw [SlotEntry.downlinkFrame_item hmuted hp hm, ho, hd])
end

section
/-! A superframe boundary and a half of a route fill over the slots (R90, R106 to R109, R112, R113, R128). -/

namespace Sys2Proof.Machine

open Sys2Proof

/-! ### An event at each slot in turn, which may queue a notice -/

section
variable {step : State → Slot → State} {p : SlotEntry → Bool} {f : SlotEntry → SlotEntry} {g : Slot → SlotEntry → Frame}

/-- The notices of the slots of a list for which an event queues one, in their order. -/
def State.slotNotices (s : State) (p : SlotEntry → Bool) (g : Slot → SlotEntry → Frame) (l : List Slot) : List Frame :=
  (l.filter fun i => p (s.slot i)).map fun i => g i (s.slot i)

theorem State.slotNotices_cons (s : State) (i : Slot) (l : List Slot) :
    s.slotNotices p g (i :: l) = (if p (s.slot i) then [g i (s.slot i)] else []) ++ s.slotNotices p g l := by
  by_cases h : p (s.slot i) <;> simp [State.slotNotices, h]

theorem State.slotNotices_congr {s t : State} {l : List Slot} (h : ∀ i ∈ l, t.slot i = s.slot i) :
    t.slotNotices p g l = s.slotNotices p g l := by
  have hfilter : (l.filter fun i => p (t.slot i)) = l.filter fun i => p (s.slot i) :=
    List.filter_congr fun i hi => by rw [h i hi]
  rw [State.slotNotices, hfilter, State.slotNotices]
  exact List.map_congr_left fun i hi => by rw [h i (List.mem_of_mem_filter hi)]

/-- What is left where the notices of all the slots are admitted: each slot changed once, the notices in slot order. -/
theorem slotFold_told (hstep : ∀ (s : State) (i : Slot), (p (s.slot i) = true → s.line.places < 56) →
      step s i = s.slotTold i (f (s.slot i)) (if p (s.slot i) then [g i (s.slot i)] else []))
    {l : List Slot} (hl : l.Nodup) {s : State} (hroom : s.line.places + (s.slotNotices p g l).length ≤ 56) :
    l.foldl step s = { s with
      radio := { s.radio with slots := (l.foldl step s).radio.slots }
      line := { s.line with queue := s.line.queue ++ s.slotNotices p g l } } ∧
    ∀ j, (l.foldl step s).slot j = if j ∈ l then f (s.slot j) else s.slot j := by
  induction l generalizing s with
  | nil => exact ⟨by simp [State.slotNotices], fun j => by simp⟩
  | cons i l ih =>
    obtain ⟨hi, hl⟩ := List.nodup_cons.mp hl
    rw [State.slotNotices_cons, List.length_append] at hroom
    have hfirst := hstep s i fun h => by simp [h] at hroom; omega
    generalize hn : (if p (s.slot i) then [g i (s.slot i)] else []) = n at hroom hfirst
    have hslot : ∀ j, (step s i).slot j = if i = j then f (s.slot i) else s.slot j := fun j => by
      rw [hfirst]
      exact s.slot_putSlot i j _
    have hother : ∀ j ∈ l, (step s i).slot j = s.slot j := fun j hj => by
      rw [hslot j, if_neg]
      rintro rfl
      exact hi hj
    have hnotices := State.slotNotices_congr (p := p) (g := g) hother
    obtain ⟨hframe, hslots⟩ := ih hl (s := step s i) (by rw [hnotices, hfirst, State.slotTold_places]; omega)
    rw [hnotices] at hframe
    rw [List.foldl_cons, State.slotNotices_cons, hn]
    refine ⟨?_, fun j => ?_⟩
    · refine hframe.trans ?_
      rw [hfirst]
      simp [State.slotTold, State.withSlot]
    · rw [hslots, hslot]
      by_cases hij : i = j
      · subst hij
        simp [hi]
      · simp only [hij, if_false, List.mem_cons, Ne.symm hij, false_or]

end

/-! ### A superframe boundary -/

theorem boundaryEntry_routed {e : SlotEntry} {m : RouteMode} (h : e.mode = .routed m) : boundaryEntry e = e := by
  have hprobing : e.probing = false := by simp [SlotEntry.probing, h]
  rw [boundaryEntry, if_neg (by simp [SlotEntry.probeDone, hprobing]), SlotEntry.nextTurn, if_neg (by simp [hprobing])]

theorem boundaryEntry_done {e : SlotEntry} {m : RouteMode} (h : e.mode = .probe m) (hd : e.probeDone = true) :
    boundaryEntry e = e.missEcho.restored m := by
  rw [boundaryEntry, if_pos hd, e.missEcho_mode, h]

theorem boundaryEntry_going {e : SlotEntry} {m : RouteMode} (h : e.mode = .probe m) (hd : e.probeDone = false) :
    boundaryEntry e = { e.missEcho with armed := true, echoDue := e.sentNow, sentNow := none } := by
  rw [boundaryEntry, if_neg (by simp [hd]), SlotEntry.nextTurn, if_pos (by simp [SlotEntry.probing, h])]

theorem SlotEntry.probeDone_mode {e : SlotEntry} (h : e.probeDone = true) : ∃ m, e.mode = .probe m := by
  simp only [SlotEntry.probeDone, Bool.and_eq_true] at h
  exact SlotEntry.probing_iff.mp h.1.1.1

/-- A boundary at one slot with room for its PROBE RESULT (R112, R113). -/
theorem State.boundaryAt_told {s : State} {i : Slot} (hp : (s.slot i).probeDone = true → s.line.places < 56) :
    s.boundaryAt i = s.slotTold i (boundaryEntry (s.slot i))
      (if (s.slot i).probeDone then [probeResultNotice i (s.slot i).missEcho false] else []) := by
  by_cases hd : (s.slot i).probeDone = true
  · obtain ⟨m, hm⟩ := SlotEntry.probeDone_mode hd
    have hmode : ((s.putSlot i (s.slot i).missEcho).slot i).mode = .probe m := by simp [hm]
    rw [State.boundaryAt, if_pos hd, State.endProbe_probe false hmode (hp hd), if_pos hd, boundaryEntry_done hm hd,
      State.slot_putSlot_same, State.putSlot_slotTold]
  · rw [State.boundaryAt, if_neg hd, if_neg hd, boundaryEntry, if_neg hd, State.slotTold_nil, State.putSlot_eq_withSlot]

/-- The PROBE RESULTs of the probes that end at a boundary (R113). -/
def State.boundaryResults (s : State) (l : List Slot) : List Frame :=
  s.slotNotices SlotEntry.probeDone (fun i e => probeResultNotice i e.missEcho false) l

theorem boundaryFold_told {s : State} {l : List Slot} (hl : l.Nodup) (hroom : s.line.places + (s.boundaryResults l).length ≤ 56) :
    l.foldl State.boundaryAt s = { s with
      radio := { s.radio with slots := (l.foldl State.boundaryAt s).radio.slots }
      line := { s.line with queue := s.line.queue ++ s.boundaryResults l } } :=
  (slotFold_told (f := boundaryEntry) (fun _ _ => State.boundaryAt_told) hl hroom).1

/-- What a boundary does before it comes to the slots (R90, R107, R128). -/
def State.boundaryBegun (s : State) : State :=
  { s with
    radio := { s.radio with
      strobes := s.store.settings.strobes, fillDue := s.radio.fillDue || s.radio.fill.state != .none }
    journal := { s.journal with drive := s.journal.drive.atBoundary } }

theorem exec_superframeBoundary {s : State} (h : s.powered = true) :
    exec .superframeBoundary s = .next ((List.finRange 64).foldl State.boundaryAt s.boundaryBegun) :=
  congrArg Host.Outcome.next (if_neg (by simp [h]))

theorem exec_superframeBoundary_off {s : State} (h : s.powered = false) : exec .superframeBoundary s = .next s :=
  congrArg Host.Outcome.next (if_pos (by simp [h]))

theorem State.boundaryAt_routed {s : State} {i : Slot} {m : RouteMode} (h : (s.slot i).mode = .routed m) : s.boundaryAt i = s := by
  have hd : (s.slot i).probeDone = false := by simp [SlotEntry.probeDone, SlotEntry.probing, h]
  rw [State.boundaryAt_told (by simp [hd]), boundaryEntry_routed h, hd]
  exact (s.slotTold_nil i _).trans (s.withSlot_self i)

/-! ### A half of a fill -/

theorem exec_fillHalf_idle {s : State} (h : s.powered = false ∨ s.radio.fillDue = false) : exec .fillHalf s = .next s :=
  congrArg Host.Outcome.next (if_pos (by rcases h with h | h <;> simp [h]))

/-- The state a half that is due begins from. -/
def State.halfBegun (s : State) : State := { s with radio := { s.radio with fillDue := false } }

/-- The slots of a half after it, from the first (R108). -/
def State.halfRouted (s : State) (first : Nat) : State := (halfSlots first).foldl State.fillSlot s.halfBegun

/-- The fill record moved on, its counts kept (R107, R108). -/
def State.fillTo (s : State) (state : FillState) : State :=
  s.setRadio { s.radio with fill := { s.radio.fill with state := state } }

/-- The FILL DONE of a fill record (R108). -/
def FillRecord.doneNotice (f : FillRecord) : Frame := fillDoneNotice f.mode f.filled f.skipped

theorem State.halfRouted_eq (s : State) (first : Nat) :
    (halfSlots first).foldl State.fillSlot (s.setRadio { s.radio with fillDue := false }) = s.halfRouted first := rfl

theorem halfSlots_nodup (first : Nat) : (halfSlots first).Nodup := (List.nodup_finRange 64).filter _

theorem mem_halfSlots {first : Nat} {i : Slot} : i ∈ halfSlots first ↔ first ≤ i.val ∧ i.val < first + 32 := by
  simp [halfSlots]

theorem State.halfRouted_frame (s : State) (first : Nat) : s.halfRouted first = { s with radio := { s.radio with
    slots := (s.halfRouted first).radio.slots
    fillDue := false
    fill := { s.radio.fill with
      filled := s.radio.fill.filled + ((halfSlots first).filter fun i => !s.fillSkips i).length
      skipped := s.radio.fill.skipped ++ ((halfSlots first).filter s.fillSkips).map Fin.val } } } :=
  (fillFold_spec _ (halfSlots_nodup first) s.halfBegun).1

theorem State.halfRouted_slot (s : State) (first : Nat) (i : Slot) : (s.halfRouted first).slot i =
    if first ≤ i.val ∧ i.val < first + 32 ∧ s.fillSkips i = false then
      if s.radio.fill.targetFreed then (s.slot i).setIdle s.checks else (s.slot i).route s.checks s.radio.fill.mode
    else s.slot i := by
  simp only [← and_assoc, ← mem_halfSlots]
  exact (fillFold_spec _ (halfSlots_nodup first) s.halfBegun).2 i

section
variable {s : State} (hp : s.powered = true) (hd : s.radio.fillDue = true)
include hp hd

theorem exec_fillHalf_none (h : s.radio.fill.state = .none) : exec .fillHalf s = .next s.halfBegun := by
  show Host.Outcome.next s.fillHalf = _
  simp [State.fillHalf, hp, hd, h, State.halfBegun, State.setRadio]

theorem exec_fillHalf_first (h : s.radio.fill.state = .firstHalf) :
    exec .fillHalf s = .next ((s.halfRouted 0).fillTo .secondHalf) := by
  show Host.Outcome.next s.fillHalf = _
  simp only [State.fillHalf, hp, hd, h, Bool.and_self, Bool.not_true, Bool.false_eq_true, if_false, s.halfRouted_eq,
    State.fillTo]

theorem exec_fillHalf_second (h : s.radio.fill.state = .secondHalf) :
    exec .fillHalf s = .next (((s.halfRouted 32).fillTo .none).offer (s.halfRouted 32).radio.fill.doneNotice) := by
  show Host.Outcome.next s.fillHalf = _
  simp only [State.fillHalf, hp, hd, h, Bool.and_self, Bool.not_true, Bool.false_eq_true, if_false, s.halfRouted_eq,
    State.setRadio_radio, State.fillTo, FillRecord.doneNotice]

end
end Sys2Proof.Machine

open Sys2Proof Sys2Proof.Machine

/-- Settles O45: the strobes, the drive and the half due first, then each slot once, in slot order. -/
theorem boundaryMarks : Obligations.BoundaryMarks := by
  refine ⟨fun s h => exec_superframeBoundary_off h, fun s h => ?_, fun s h hprobes => ?_⟩
  · intro done results drive
    have hnodup := List.nodup_finRange 64
    obtain ⟨hslotwise, hslots⟩ := boundaryFold_spec _ hnodup s.boundaryBegun
    have hdrive : s.journal.drive.atBoundary = drive := by cases hs : s.journal.drive <;> simp [drive, hs] <;> rfl
    have htold := boundaryFold_told (s := s.boundaryBegun) hnodup
    have hexec := exec_superframeBoundary h
    generalize (List.finRange 64).foldl State.boundaryAt s.boundaryBegun = t at hslotwise hslots htold hexec
    have hsame := hslotwise.same
    refine ⟨t, hexec, by rw [hsame]; rfl, by rw [hsame]; exact hdrive, hslotwise.queue, fun hroom => ?_, fun i => ?_⟩
    · have hframe := htold hroom
      rw [hframe, ← hdrive]
      exact ⟨rfl, rfl, rfl, rfl⟩
    · have hslot := (hslots i).trans (if_pos (List.mem_finRange i))
      exact ⟨fun m hm => hslot.trans (boundaryEntry_routed hm), fun m hm hd => hslot.trans (boundaryEntry_done hm hd),
        fun m hm hd => hslot.trans (boundaryEntry_going hm hd)⟩
  · have hkept : ∀ i : Slot, s.boundaryBegun.boundaryAt i = s.boundaryBegun := fun i => by
      cases hm : (s.slot i).mode with
      | routed m => exact State.boundaryAt_routed hm
      | probe m => exact absurd hm (hprobes i m)
    rw [exec_superframeBoundary h, List.foldl_fixed' hkept]
    rfl

/-- Settles O46: the half's fold over its slots, by `fillFold_spec`. -/
theorem fillHalfRoutes : Obligations.FillHalfRoutes := by
  intro s f skips routed half after record
  refine ⟨fun h => exec_fillHalf_idle h, fun hp hd => ⟨fun h => exec_fillHalf_none hp hd h, fun h => ?_, fun h hplaces => ?_⟩⟩
  · have hexec := exec_fillHalf_first hp hd h
    have hframe := s.halfRouted_frame 0
    have hslots := s.halfRouted_slot 0
    generalize s.halfRouted 0 = u at hexec hframe hslots
    refine ⟨_, hexec, hslots, ?_⟩
    rw [hframe]
    rfl
  · have hexec := exec_fillHalf_second hp hd h
    have hframe := s.halfRouted_frame 32
    have hslots := s.halfRouted_slot 32
    generalize s.halfRouted 32 = u at hexec hframe hslots
    have hroom : u.line.places < 56 := by rw [hframe]; exact hplaces.trans (by decide)
    rw [State.offer_room _ _ (by exact hroom)] at hexec
    refine ⟨_, hexec, hslots, ?_⟩
    rw [hframe]
    rfl
end

section
/-! ROUTE SLOT, ROUTE FILL and PROBE SLOT (R105 to R107, R110, R111). -/

namespace Sys2Proof.Machine

open Sys2Proof

/-! ### The mode a command names -/

section
variable {mode : U8} {check : U16} {text : Bytes} {m : RouteMode}

theorem U8.mode_cases (mode : U8) : mode = 0 ∨ mode = 1 ∨ mode = 2 ∨ mode = 3 ∨ 3 < mode.toNat := by
  bv_omega

theorem routeOfFields_other (h : 3 < mode.toNat) : routeOfFields mode check text = none := by
  rw [routeOfFields, if_neg, if_neg, if_neg, if_neg] <;> bv_omega

theorem routeOfFields_bound : routeOfFields 1 check text = if check = 0 then none else some (.bound check.toNat) := rfl

theorem routeOfFields_message (hl : text.length = 32) :
    routeOfFields 2 check text = if ∀ b ∈ text, b = 0x20 then none else some (.message text) := by
  show (if text.all (· == 0x20) || text.length > 32 then none else some (RouteMode.message text)) = _
  simp [hl]

theorem routeOfFields_none_iff (hl : text.length = 32) : routeOfFields mode check text = none ↔
    3 < mode.toNat ∨ (mode = 1 ∧ check = 0) ∨ (mode = 2 ∧ ∀ b ∈ text, b = 0x20) := by
  obtain rfl | rfl | rfl | rfl | h := U8.mode_cases mode
  · simp [routeOfFields]
  · rw [routeOfFields_bound]
    simp
  · rw [routeOfFields_message hl]
    simp
  · simp [routeOfFields]
  · simp [routeOfFields_other h, h]

/-- The command names IDLE by the code 0, and the check of BOUND by its number (R175). -/
theorem routeOfFields_some (hl : text.length = 32) (h : routeOfFields mode check text = some m) :
    (m = .idle ↔ mode = 0) ∧ ∀ n, m = .bound n ↔ mode = 1 ∧ n = check.toNat := by
  obtain rfl | rfl | rfl | rfl | hm := U8.mode_cases mode
  · cases h
    simp
  · rw [routeOfFields_bound, Option.ite_none_left_eq_some] at h
    obtain ⟨-, h⟩ := h
    cases h
    simp [eq_comm]
  · rw [routeOfFields_message hl, Option.ite_none_left_eq_some] at h
    obtain ⟨-, h⟩ := h
    cases h
    simp
  · cases h
    simp
  · rw [routeOfFields_other hm] at h
    cases h

theorem State.unknownTarget_iff {s : State} : s.unknownTarget m = true ↔ ∃ n, m = .bound n ∧ s.check n = none := by
  cases m <;> simp [State.unknownTarget]

theorem State.not_unknownTarget {s : State} (h : ∀ n, m = .bound n → (s.check n).isSome = true) : ¬s.unknownTarget m = true := by
  rw [State.unknownTarget_iff]
  rintro ⟨n, hm, hn⟩
  simpa [hn] using h n hm

theorem FillRecord.running_iff {f : FillRecord} : f.running = true ↔ f.state ≠ .none := by
  simp [FillRecord.running]

/-- A slot in PROBE or with a tender in flight (R105, R110). -/
theorem SlotEntry.busy_iff {e : SlotEntry} :
    (e.probing || e.inFlight.isSome) = true ↔ (∃ m, e.mode = .probe m) ∨ e.inFlight ≠ none := by
  rw [Bool.or_eq_true, SlotEntry.probing_iff, Option.isSome_iff_ne_none]

/-- A route change: the items cleared, then the mode's display as the next item (R97, R106). -/
theorem SlotEntry.route_eq (checks : List Check) (m : RouteMode) (e : SlotEntry) :
    e.route checks m = { e with
      mode := .routed m, outcome := none, display := (modeDisplay checks m).map fun d => (e.nextItem, d)
      nextItem := if m = .muted then e.nextItem else itemAfter e.nextItem } := by
  cases m <;> rfl

/-! ### The tests in their order -/

@[simp] theorem State.owe_slotEnabled (s : State) (i : Slot) : s.owe.slotEnabled i = s.slotEnabled i := rfl

@[simp] theorem State.owe_unknownTarget (s : State) (m : RouteMode) : s.owe.unknownTarget m = s.unknownTarget m := rfl

variable {s : State} {slot : U8} {i : Slot} {frames : U32}

theorem routeSlot_halted (hs : s.run.state = .halted) : routeSlot slot mode check text s = s.refuse .state :=
  if_pos (by simp [State.halted, hs])

theorem routeFill_halted (hs : s.run.state = .halted) : routeFill mode check text s = s.refuse .state :=
  if_pos (by simp [State.halted, hs])

theorem probeSlot_halted (hs : s.run.state = .halted) : probeSlot slot frames s = s.refuse .state :=
  if_pos (by simp [State.halted, hs])

section
variable (hs : s.run.state ≠ .halted)
include hs

theorem routeSlot_range (h : 63 < slot.toNat ∨ routeOfFields mode check text = none) :
    routeSlot slot mode check text s = s.refuse .range := by
  rw [routeSlot, if_neg (State.not_halted hs)]
  rcases h with h | h
  · rw [slotOfByte_ge h]
  · rw [h]
    cases slotOfByte slot <;> rfl

theorem routeSlot_named (hm : routeOfFields mode check text = some m) : routeSlot (slotByte i) mode check text s =
    if s.slotEnabled i = false ∧ m ≠ .idle then s.refuse .range
    else if s.radio.fill.state ≠ .none then s.refuse .busy
    else if (s.slot i).probing || (s.slot i).inFlight.isSome then s.refuse .slotBusy
    else if s.unknownTarget m then s.refuse .noCheck
    else (s.withSlot i ((s.slot i).route s.checks m),
      .accepted ([m.code, (s.slot i).presence.code] ++ idField (s.slot i).terminalId)) := by
  have hpresence : ((s.slot i).route s.checks m).presence = (s.slot i).presence := by rw [SlotEntry.route_eq]
  have hid : ((s.slot i).route s.checks m).terminalId = (s.slot i).terminalId := by rw [SlotEntry.route_eq]
  simp [routeSlot, State.not_halted hs, slotOfByte_slotByte, hm, FillRecord.running_iff, hpresence, hid, State.putSlot_eq_withSlot]

theorem routeFill_range (h : routeOfFields mode check text = none) : routeFill mode check text s = s.refuse .range := by
  rw [routeFill, if_neg (State.not_halted hs), h]

theorem routeFill_named (hm : routeOfFields mode check text = some m) : routeFill mode check text s =
    if s.radio.fill.state ≠ .none then s.refuse .busy
    else if s.unknownTarget m then s.refuse .noCheck
    else ({ s with radio := { s.radio with fill := {
      state := .firstHalf, mode := m, targetFreed := false, filled := 0, skipped := [] } } }, .accepted []) := by
  simp [routeFill, State.not_halted hs, hm, FillRecord.running_iff, State.setRadio]

theorem probeSlot_range (h : 63 < slot.toNat ∨ frames = 0 ∨ 255 < frames.toNat) : probeSlot slot frames s = s.refuse .range := by
  rw [probeSlot, if_neg (State.not_halted hs)]
  cases hi : slotOfByte slot with
  | none => rfl
  | some i =>
    have hslot : ¬63 < slot.toNat := fun h => by simp [slotOfByte_ge h] at hi
    exact if_pos ((h.resolve_left hslot).imp_right .inl)

theorem probeSlot_probing {k : RouteMode} (h1 : 1 ≤ frames.toNat) (h2 : frames.toNat ≤ 255) (hk : (s.slot i).mode = .probe k) :
    probeSlot (slotByte i) frames s =
      if s.slotEnabled i = false then s.refuse .range
      else if s.radio.fill.state ≠ .none then s.refuse .busy
      else s.refuse .slotBusy := by
  have hzero : ¬frames = 0#32 := by bv_omega
  simp [probeSlot, State.not_halted hs, slotOfByte_slotByte, hzero, Nat.not_lt.mpr h2, FillRecord.running_iff, hk]

theorem probeSlot_routed {k : RouteMode} (h1 : 1 ≤ frames.toNat) (h2 : frames.toNat ≤ 255) (hk : (s.slot i).mode = .routed k) :
    probeSlot (slotByte i) frames s =
      if s.slotEnabled i = false then s.refuse .range
      else if s.radio.fill.state ≠ .none then s.refuse .busy
      else if (s.slot i).inFlight ≠ none then s.refuse .slotBusy
      else if (s.slot i).presence ≠ .present then s.refuse .state
      else (s.withSlot i ((s.slot i).startProbe k frames.toNat), .accepted []) := by
  have hzero : ¬frames = 0#32 := by bv_omega
  simp [probeSlot, State.not_halted hs, slotOfByte_slotByte, hzero, Nat.not_lt.mpr h2, FillRecord.running_iff, hk,
    State.putSlot_eq_withSlot, Option.isSome_iff_ne_none]

end
end
end Sys2Proof.Machine

open Sys2Proof Sys2Proof.Machine

/-- Settles O47: each command's tests in their order, then its one change. -/
theorem routeCommandsTaken : Obligations.RouteCommandsTaken := by
  intro s tag ht filling busy
  have hbusy : ∀ i, busy i ↔ ((s.slot i).probing || (s.slot i).inFlight.isSome) = true := fun i => SlotEntry.busy_iff.symm
  refine ⟨?_, ?_, ?_, fun hs hfill => ⟨?_, ?_, ?_⟩⟩
  · intro slot mode check text hl refused bad
    have hrefused : ∀ {r}, routeSlot slot mode check text s.owe = s.owe.refuse r → refused r :=
      exec_answered (.routeSlot slot mode check text) (routeSlot slot mode check text) rfl ht (beq_iff_eq.mpr hl) rfl rfl
    have hnone : routeOfFields mode check text = none ↔ bad := routeOfFields_none_iff hl
    refine ⟨fun hs => hrefused (routeSlot_halted hs), fun hs h => hrefused (routeSlot_range hs (h.imp_right hnone.mpr)), ?_⟩
    rintro i hs rfl hbad off
    obtain ⟨m, hm⟩ := Option.ne_none_iff_exists'.mp (mt hnone.mp hbad)
    obtain ⟨hidle, hbound⟩ := routeOfFields_some hl hm
    have hoff : off ↔ s.slotEnabled i = false ∧ m ≠ .idle := and_congr_right fun _ => not_congr hidle.symm
    have htests := routeSlot_named (s := s.owe) (i := i) hs hm
    rw [State.owe_slotEnabled, State.owe_radio, State.owe_slot, State.owe_unknownTarget] at htests
    refine ⟨fun h => hrefused ?_, fun h hf => hrefused ?_, fun h hf hb => hrefused ?_, fun h hf hb h1 hc => hrefused ?_⟩
    · exact htests.trans (if_pos (hoff.mp h))
    · rw [htests, if_neg (mt hoff.mpr h)]
      exact if_pos hf
    · rw [htests, if_neg (mt hoff.mpr h), if_neg hf]
      exact if_pos ((hbusy i).mp hb)
    · rw [htests, if_neg (mt hoff.mpr h), if_neg hf, if_neg (mt (hbusy i).mpr hb)]
      exact if_pos (State.unknownTarget_iff.mpr ⟨_, (hbound _).mpr ⟨h1, rfl⟩, hc⟩)
  · intro mode check text hl refused bad
    have hrefused : ∀ {r}, routeFill mode check text s.owe = s.owe.refuse r → refused r :=
      exec_answered (.routeFill mode check text) (routeFill mode check text) rfl ht (beq_iff_eq.mpr hl) rfl rfl
    have hnone : routeOfFields mode check text = none ↔ bad := routeOfFields_none_iff hl
    refine ⟨fun hs => hrefused (routeFill_halted hs), fun hs h => hrefused (routeFill_range hs (hnone.mpr h)),
      fun hs hbad hf => hrefused ?_, fun hs hbad hf h1 hc => hrefused ?_⟩
    all_goals
      obtain ⟨m, hm⟩ := Option.ne_none_iff_exists'.mp (mt hnone.mp hbad)
      rw [routeFill_named (s := s.owe) hs hm]
    · exact if_pos hf
    · rw [if_neg (by exact hf)]
      exact if_pos (State.unknownTarget_iff.mpr ⟨_, ((routeOfFields_some hl hm).2 _).mpr ⟨h1, rfl⟩, hc⟩)
  · intro slot frames refused
    have hrefused : ∀ {r}, probeSlot slot frames s.owe = s.owe.refuse r → refused r :=
      exec_answered (.probeSlot slot frames) (probeSlot slot frames) rfl ht rfl rfl rfl
    refine ⟨fun hs => hrefused (probeSlot_halted hs), fun hs h => hrefused (probeSlot_range hs h), ?_⟩
    rintro i hs rfl h1 h2
    cases hk : (s.slot i).mode with
    | probe k =>
      have htests := probeSlot_probing (s := s.owe) hs h1 h2 hk
      rw [State.owe_slotEnabled, State.owe_radio] at htests
      refine ⟨fun h => hrefused ?_, fun h hf => hrefused ?_, fun h hf _ => hrefused ?_, fun _ _ hb => absurd (.inl ⟨k, hk⟩) hb⟩
      · exact htests.trans (if_pos h)
      · rw [htests, if_neg (by simp [h])]
        exact if_pos hf
      · rw [htests, if_neg (by simp [h]), if_neg (by exact hf)]
    | routed k =>
      have htests := probeSlot_routed (s := s.owe) hs h1 h2 hk
      rw [State.owe_slotEnabled, State.owe_radio, State.owe_slot] at htests
      have hfree : (s.slot i).inFlight ≠ none ↔ busy i := (or_iff_right (by simp [hk])).symm
      refine ⟨fun h => hrefused ?_, fun h hf => hrefused ?_, fun h hf hb => hrefused ?_, fun h hf hb hp => hrefused ?_⟩
      · exact htests.trans (if_pos h)
      · rw [htests, if_neg (by simp [h])]
        exact if_pos hf
      · rw [htests, if_neg (by simp [h]), if_neg hf]
        exact if_pos (hfree.mpr hb)
      · rw [htests, if_neg (by simp [h]), if_neg hf, if_neg (mt hfree.mp hb)]
        exact if_pos hp
  · intro slot mode check text m hl hm hknown henabled hb e
    refine exec_answered_changed (.routeSlot (slotByte slot) mode check text) (routeSlot (slotByte slot) mode check text) rfl ht
      (beq_iff_eq.mpr hl) rfl rfl ?_ rfl
    have hoff : ¬(s.slotEnabled slot = false ∧ m ≠ .idle) := by
      rintro ⟨hdisabled, hm⟩
      exact henabled.elim (by simp [hdisabled]) hm
    rw [routeSlot_named (s := s.owe) hs hm, State.owe_slotEnabled, State.owe_radio, State.owe_slot, State.owe_unknownTarget,
      if_neg hoff, if_neg hfill, if_neg (mt (hbusy slot).mpr hb), if_neg (State.not_unknownTarget hknown), SlotEntry.route_eq]
    rfl
  · intro mode check text m hl hm hknown
    refine exec_answered_changed (.routeFill mode check text) (routeFill mode check text) rfl ht (beq_iff_eq.mpr hl) rfl rfl ?_ rfl
    rw [routeFill_named (s := s.owe) hs hm, State.owe_radio, State.owe_unknownTarget, if_neg hfill,
      if_neg (State.not_unknownTarget hknown)]
    rfl
  · intro slot frames m h1 h2 henabled hk hfree hp
    refine exec_answered_changed (.probeSlot (slotByte slot) frames) (probeSlot (slotByte slot) frames) rfl ht rfl rfl rfl ?_ rfl
    rw [probeSlot_routed (s := s.owe) hs h1 h2 hk, State.owe_slotEnabled, State.owe_radio, State.owe_slot,
      if_neg (by simp [henabled]), if_neg hfill, if_neg (by simp [hfree]), if_neg (by simp [hp])]
    rfl
end

section
/-! SET RUN (R113, R121, R135 to R137). -/

namespace Sys2Proof.Machine

open Sys2Proof

/-! ### The run state and its record -/

theorem RunState.ofCode_code (r : RunState) : RunState.ofCode r.code = some r := by
  cases r <;> rfl

theorem RunState.ofCode_none {b : U8} (h : 2 < b.toNat) : RunState.ofCode b = none := by
  rw [RunState.ofCode, if_neg, if_neg, if_neg] <;> bv_omega

/-- The flags of a RUN STATE record of a SET RUN (R179). -/
theorem runFlags_setRun (old new : RunState) : runFlags old new .setRun = old.code + new.code * 4 + 16 := by
  cases old <;> cases new <;> rfl

/-- What a SET RUN leaves that moves the run state (R121, R134). -/
def State.ranTo (s : State) (new : RunState) : State :=
  { s with
    run := { s.run with state := new }
    journal := s.journal.append s.run.clock { kind := .runState, flags := s.run.state.code + new.code * 4 + 16 } }

theorem State.changeRun_setRun (s : State) (new : RunState) : s.changeRun new .setRun = s.ranTo new := by
  rw [State.changeRun, runFlags_setRun]
  rfl

/-! ### The configuration check (R136) -/

section
variable {j : Journal}

theorem Journal.inSpan_iff {b : Nat} : j.inSpan b = true ↔ ∃ i, i ≤ j.extent ∧ (j.base + i) % 8 = b := by
  simp [Journal.inSpan]

theorem Journal.failedBank_none (h : ∀ i, i ≤ j.extent → j.bankResult ((j.base + i) % 8) ≠ .fail) : j.failedBank = none := by
  refine List.find?_eq_none.mpr fun b _ hb => ?_
  rw [Bool.and_eq_true, Journal.inSpan_iff, beq_iff_eq] at hb
  obtain ⟨⟨i, hi, rfl⟩, hfail⟩ := hb
  exact h i hi hfail

/-- The check names the lowest FAIL bank of the span. -/
theorem Journal.failedBank_lowest {b : Nat} (hb : ∃ i, i ≤ j.extent ∧ (j.base + i) % 8 = b ∧ j.bankResult b = .fail)
    (hlow : ∀ i, i ≤ j.extent → (j.base + i) % 8 < b → j.bankResult ((j.base + i) % 8) ≠ .fail) : j.failedBank = some b := by
  obtain ⟨i, hi, rfl, hfail⟩ := hb
  refine List.find?_range_eq_some.mpr ⟨?_, List.mem_range.mpr (Nat.mod_lt _ (by decide)), fun c hc => ?_⟩
  · simpa [hfail, Journal.inSpan_iff] using ⟨i, hi, rfl⟩
  · rw [Bool.not_eq_true', Bool.eq_false_iff, ne_eq, Bool.and_eq_true, Journal.inSpan_iff, beq_iff_eq]
    rintro ⟨⟨k, hk, rfl⟩, hcfail⟩
    exact hlow k hk hc hcfail

variable {s : State}

theorem configCheck_bank {b : Nat} (h : s.journal.failedBank = some b) : configCheck s = some (.failedBank b) := by
  rw [configCheck, h]

theorem configCheck_noLine (h : s.journal.failedBank = none) (hoff : ∀ n, n < 4 → s.store.settings.lineEnabled n = false) :
    configCheck s = some .noLine := by
  rw [configCheck, h]
  exact if_pos (List.all_eq_true.mpr fun n hn => by simp [hoff n (List.mem_range.mp hn)])

theorem configCheck_passes (h : s.journal.failedBank = none) (hon : ∃ n, n < 4 ∧ s.store.settings.lineEnabled n = true) :
    configCheck s = none := by
  obtain ⟨n, hn, hon⟩ := hon
  rw [configCheck, h]
  exact if_neg fun hall => by simpa [hon] using List.all_eq_true.mp hall n (List.mem_range.mpr hn)

/-! ### SET RUN by the state it meets -/

variable {bytes : Bytes} {new : RunState}

theorem setRun_range {b : U8} (h : 2 < b.toNat) : setRun bytes b s = s.refuse .range := by
  rw [setRun, RunState.ofCode_none h]

theorem setRun_same : setRun bytes s.run.state.code s = s.accept [s.run.state.code] := by
  simp only [setRun, RunState.ofCode_code, if_true]

theorem setRun_moves (hs : s.run.state ≠ .halted) (hnew : new ≠ .halted) (hne : new ≠ s.run.state) :
    setRun bytes new.code s = (s.ranTo new, .accepted [new.code]) := by
  simp only [setRun, RunState.ofCode_code, hs, hnew, hne, if_false, State.changeRun_setRun]

theorem setRun_leaves (hs : s.run.state = .halted) (hnew : new ≠ .halted) : setRun bytes new.code s = leaveHalted bytes new s := by
  simp only [setRun, RunState.ofCode_code, hs, hnew, if_false, if_true]

theorem setRun_enters (hs : s.run.state ≠ .halted) : setRun bytes RunState.halted.code s = enterHalted s := by
  simp only [setRun, RunState.ofCode_code, hs, Ne.symm hs, if_false, if_true]

/-- The bank test is done and no setting write is listed (R135). -/
abbrev State.tested (s : State) : Prop := (∀ b : Fin 8, s.journal.results[b] ≠ .untested) ∧ s.store.settingListed = false

theorem leaveHalted_busy (h : ¬s.tested) : leaveHalted bytes new s = s.refuse .busy := by
  rw [leaveHalted]
  split
  · rfl
  · rename_i htesting
    refine if_pos (Bool.not_eq_false _ ▸ fun hlisted => h ⟨fun b hb => htesting ?_, hlisted⟩)
    exact s.journal.testing_iff.mpr ⟨b, hb⟩

theorem State.tested.not_testing (h : s.tested) : ¬s.journal.testing = true := fun htesting => by
  obtain ⟨b, hb⟩ := s.journal.testing_iff.mp htesting
  exact h.1 b hb

theorem leaveHalted_passes (h : s.tested) (hc : configCheck s = none) :
    leaveHalted bytes new s = (s.ranTo new, .accepted [new.code]) := by
  rw [leaveHalted, if_neg h.not_testing, if_neg (by simp [h.2]), hc, State.changeRun_setRun]

theorem leaveHalted_fails {c : ConfigCause} (h : s.tested) (hc : configCheck s = some c) (hadm : s.admits .configCheckFail) :
    leaveHalted bytes new s =
      (s.faulted .configCheckFail c.source bytes, .refusedWith .configFault (c.code :: le 1 c.bank)) := by
  rw [leaveHalted, if_neg h.not_testing, if_neg (by simp [h.2]), hc, ← State.raise_faulted _ _ hadm]

theorem enterHalted_busy (h : s.checks ≠ [] ∨ s.tenders.pool ≠ [] ∨ s.uplink.queue ≠ []) :
    enterHalted s = s.refuse .busy := if_pos h

theorem enterHalted_empty (hc : s.checks = []) (ht : s.tenders.pool = []) (hq : s.uplink.queue = []) :
    enterHalted s = ((s.ranTo .halted).endProbes, .accepted [0]) := by
  rw [enterHalted, if_neg (by simp [hc, ht, hq]), State.changeRun_setRun]
  rfl

/-! ### The probes that end -/

/-- A slot entry after its probe, if it has one, has ended (R113). -/
def SlotEntry.probeEnded (e : SlotEntry) : SlotEntry :=
  match e.mode with
  | .probe m => e.restored m
  | .routed _ => e

theorem State.endProbe_told {i : Slot} (early : Bool) (hp : (s.slot i).probing = true → s.line.places < 56) :
    s.endProbe early i = s.slotTold i (s.slot i).probeEnded
      (if (s.slot i).probing then [probeResultNotice i (s.slot i) early] else []) := by
  cases hm : (s.slot i).mode with
  | probe m =>
    have hprobing : (s.slot i).probing = true := by simp [SlotEntry.probing, hm]
    rw [State.endProbe_probe early hm (hp hprobing), SlotEntry.probeEnded, hm, if_pos hprobing]
  | routed m =>
    rw [State.endProbe_routed early hm, SlotEntry.probeEnded, hm, if_neg (by simp [SlotEntry.probing, hm]), State.slotTold_nil,
      State.withSlot_self]

/-- The PROBE RESULTs of all the probes, ended early (R113). -/
def State.earlyResults (s : State) : List Frame :=
  s.slotNotices SlotEntry.probing (fun i e => probeResultNotice i e true) (List.finRange 64)

theorem endProbeFold_told {l : List Slot} (hl : l.Nodup)
    (hroom : s.line.places + (s.slotNotices SlotEntry.probing (fun i e => probeResultNotice i e true) l).length ≤ 56) :
    l.foldl (fun s i => s.endProbe true i) s = { s with
      radio := { s.radio with slots := (l.foldl (fun s i => s.endProbe true i) s).radio.slots }
      line := { s.line with
        queue := s.line.queue ++ s.slotNotices SlotEntry.probing (fun i e => probeResultNotice i e true) l } } ∧
    ∀ i, (l.foldl (fun s i => s.endProbe true i) s).slot i = if i ∈ l then (s.slot i).probeEnded else s.slot i :=
  slotFold_told (fun _ _ => State.endProbe_told true) hl hroom

theorem State.endProbes_told (hroom : s.line.places + s.earlyResults.length ≤ 56) :
    s.endProbes = { s with
      radio := { s.radio with slots := s.endProbes.radio.slots }
      line := { s.line with queue := s.line.queue ++ s.earlyResults } } ∧
    ∀ i, s.endProbes.slot i = (s.slot i).probeEnded := by
  obtain ⟨hframe, hslots⟩ := endProbeFold_told (List.nodup_finRange 64) hroom
  rw [State.endProbes]
  exact ⟨hframe, fun i => (hslots i).trans (if_pos (List.mem_finRange i))⟩

/-- A SET RUN into HALTED while probes run: their PROBE RESULTs in slot order, the reply among them (R113, R137; log 5). -/
theorem exec_setRun_endsProbes {tag : U8} (ht : s.takes tag) (hs : s.run.state ≠ .halted) (hc : s.checks = [])
    (hp : s.tenders.pool = []) (hq : s.uplink.queue = []) (hne : s.earlyResults ≠ [])
    (hroom : s.line.places + s.earlyResults.length < 56) :
    ∃ t : State, exec (.setRun tag 0) s = .next t ∧
      t = { s.ranTo .halted with
        radio := { s.radio with slots := t.radio.slots }
        line := { s.line with queue := t.line.queue }
        freeCount := s.freeCount + 1 } ∧
      repliedAmong s.line.queue s.earlyResults ((Reply.accepted [0]).frame 0x24 tag) t.line.queue ∧
      ∀ i, t.slot i = (s.slot i).probeEnded := by
  have howed : (s.owe.ranTo .halted).line.places = s.line.places + 1 := rfl
  have hresults : (s.owe.ranTo .halted).earlyResults = s.earlyResults := rfl
  obtain ⟨hframe, hslots⟩ := State.endProbes_told (s := s.owe.ranTo .halted) (by rw [howed, hresults]; omega)
  have hdone := (setRun_enters (bytes := ((HostCommand.setRun 0).frame tag).take 8) (s := s.owe) hs).trans
    (enterHalted_empty hc hp hq)
  rw [hresults] at hframe
  generalize (s.owe.ranTo .halted).endProbes = done at hframe hslots hdone
  have hqueue : done.line.queue = s.line.queue ++ s.earlyResults := by rw [hframe]; rfl
  have hexec : exec (.setRun tag 0) s = .next (s.answer 0x24 tag (setRun _ RunState.halted.code)) :=
    exec_taken (c := .setRun 0) rfl ht rfl rfl
  obtain ⟨hsame, hamong⟩ := State.answer_answeredFrom (kind := 0x24) (tag := tag) hdone (hqueue ▸ List.prefix_append ..)
  generalize s.answer 0x24 tag (setRun _ RunState.halted.code) = t at hexec hsame hamong
  rw [hqueue, List.drop_left] at hsame hamong
  rw [if_neg hne] at hsame
  have hradio : t.radio = done.radio := by rw [hsame]
  refine ⟨t, hexec, ?_, hamong, fun i => (State.slot_of_radio hradio i).trans (hslots i)⟩
  rw [hradio]
  refine hsame.trans ?_
  rw [hframe]
  rfl

end
end Sys2Proof.Machine

open Sys2Proof Sys2Proof.Machine

/-- Settles O54: SET RUN by the state it meets, each form as its own lemma gives it. -/
theorem setRunMoves : Obligations.SetRunMoves := by
  intro s tag ht moved answers lowest tested noneFailed
  have hanswers : ∀ {new t r}, setRun (((HostCommand.setRun new.code).frame tag).take 8) new.code s.owe = (t.owe, r) →
      t.line = s.line → answers new t r := fun {new t r} =>
    exec_answered_changed (.setRun new.code) (setRun _ new.code) rfl ht rfl rfl rfl
  have hfails : ∀ {new : RunState} {c : ConfigCause}, s.run.state = .halted → new ≠ .halted → tested →
      s.owe.admits .configCheckFail → configCheck s.owe = some c → ∃ t : State, exec (.setRun tag new.code) s = .next t ∧
        answeredFrom s (s.owe.faulted .configCheckFail c.source ((HostCommand.setRun new.code).frame tag)) t
          ((Reply.refusedWith .configFault (c.code :: le 1 c.bank)).frame 0x24 tag) := fun {new c} hs hnew h hadm hc => by
    refine ⟨_, exec_taken (c := .setRun new.code) rfl ht rfl rfl, State.answer_answeredFrom ?_ (List.prefix_append ..)⟩
    rw [setRun_leaves (s := s.owe) hs hnew, leaveHalted_fails (s := s.owe) h hc hadm, State.faulted_take]
  refine ⟨fun b h => ?_, hanswers (setRun_same (s := s.owe)) rfl, fun h => ?_, fun h => ?_, fun new hs hnew => ⟨fun h => ?_,
    fun h hpass hon => ?_, fun h hadm => ⟨fun b hb => ?_, fun hpass hoff => ?_⟩⟩,
    fun hs => ⟨fun h => ?_, fun hc hp hq hnone => ?_, fun hc hp hq => ?_⟩⟩
  · exact exec_answered (.setRun b) (setRun _ b) rfl ht rfl rfl rfl (setRun_range h)
  · exact hanswers (t := moved _) (setRun_moves (s := s.owe) (by simp [h]) (by simp) (by simp [h])) rfl
  · exact hanswers (t := moved _) (setRun_moves (s := s.owe) (by simp [h]) (by simp) (by simp [h])) rfl
  · exact hanswers ((setRun_leaves (s := s.owe) hs hnew).trans (leaveHalted_busy (s := s.owe) h)) rfl
  · exact hanswers (t := moved new) ((setRun_leaves (s := s.owe) hs hnew).trans
      (leaveHalted_passes (s := s.owe) h (configCheck_passes (Journal.failedBank_none hpass) hon))) rfl
  · exact hfails (c := .failedBank b) hs hnew h hadm (configCheck_bank (s := s.owe) (Journal.failedBank_lowest hb.1 hb.2))
  · exact hfails (c := .noLine) hs hnew h hadm (configCheck_noLine (s := s.owe) (Journal.failedBank_none hpass) hoff)
  · exact hanswers ((setRun_enters (s := s.owe) hs).trans (enterHalted_busy (s := s.owe) h)) rfl
  · have hkept : (s.owe.ranTo .halted).endProbes = s.owe.ranTo .halted := State.endProbes_none hnone
    exact hanswers (t := moved .halted) ((setRun_enters (s := s.owe) hs).trans
      ((enterHalted_empty (s := s.owe) hc hp hq).trans (by rw [hkept]; rfl))) rfl
  · intro results hne hroom
    obtain ⟨t, hexec, hframe, hamong, hslots⟩ := exec_setRun_endsProbes ht hs hc hp hq hne hroom
    refine ⟨t, hexec, hframe, hamong, fun i => (hslots i).trans ?_⟩
    rw [SlotEntry.probeEnded]
    cases (s.slot i).mode <;> rfl
end

section
/-! The journal's form along what an event is built from: appends, raises and notices, the store write list, the Check Table, Uplink
Control and the Tender Pool (R115, R116, R119). Each lemma says that one operation of the model keeps `Journal.Formed`. -/

namespace Sys2Proof.Machine

open Sys2Proof

/-- An append writes one cell and moves the next number by one, to 2^32 at most (R119). -/
theorem Journal.append_formed {j : Journal} {clock : Nat} {r : JournalRecord} (h : j.Formed) : (j.append clock r).Formed := by
  obtain ⟨hcells, hfloor, hnext⟩ := h
  unfold Journal.append
  split
  · next hlt => exact ⟨cellsWrite_wf _ _ _ hcells, Nat.le_succ_of_le hfloor, hlt⟩
  · exact ⟨hcells, hfloor, hnext⟩

/-- A span re-formed has its floor at the next number (R116). -/
theorem Journal.follow_formed {j : Journal} {st : Settings} (h : j.Formed) : (j.follow st).Formed := by
  unfold Journal.follow
  split
  · exact ⟨h.1, le_rfl, h.2.2⟩
  · exact h

/-- Power-on empties the storage and starts the numbering at 0 (R115). -/
theorem Journal.start_formed (base extent : Nat) : (Journal.start base extent).Formed :=
  ⟨rfl, le_rfl, Nat.zero_le _⟩

variable {s : State}

/-! ### Appends, raises, notices and replies -/

theorem State.appendRecord_journalFormed {r : JournalRecord} (h : s.journal.Formed) : (s.appendRecord r).journal.Formed :=
  Journal.append_formed h

theorem State.changeRun_journalFormed {new : RunState} {cause : RunCause} (h : s.journal.Formed) :
    (s.changeRun new cause).journal.Formed := Journal.append_formed h

theorem State.severeReport_journalFormed {cls : FaultClass} (h : s.journal.Formed) : (s.severeReport cls).journal.Formed := by
  unfold State.severeReport
  split
  · exact State.changeRun_journalFormed h
  · exact h

theorem raiseWithin_journalFormed {n : Nat} {code : FaultCode} {source : FaultSource} {bytes : Bytes} (h : s.journal.Formed) :
    (raiseWithin n code source bytes s).journal.Formed := by
  induction n generalizing code source bytes s with
  | zero => exact h
  | succ n ih =>
    rw [raiseWithin]
    dsimp only
    split
    · exact h
    · split
      · exact State.severeReport_journalFormed h
      · apply State.severeReport_journalFormed
        split
        · split
          · exact h
          · exact ih h
        · exact h

theorem State.raise_journalFormed {code : FaultCode} {source : FaultSource} {bytes : Bytes} (h : s.journal.Formed) :
    (s.raise code source bytes).journal.Formed := raiseWithin_journalFormed h

theorem State.offer_journalFormed {f : Frame} (h : s.journal.Formed) : (s.offer f).journal.Formed := by
  unfold State.offer
  split
  · exact h
  · exact State.raise_journalFormed h

@[simp] theorem State.queueReply_journal (s : State) (before : Nat) (f : Frame) : (s.queueReply before f).journal = s.journal := by
  unfold State.queueReply
  dsimp only
  split <;> rfl

/-- A command keeps the form where its owner does (R169). -/
theorem State.answer_journalFormed {kind tag : U8} {d : State → State × Reply} (hd : (d s.owe).1.journal.Formed) :
    (s.answer kind tag d).journal.Formed := by
  rw [State.answer, State.queueReply_journal]
  exact hd

theorem State.placeOutcome_journalFormed {i : Slot} {o : OutcomeItem} (h : s.journal.Formed) :
    (s.placeOutcome i o).journal.Formed := h

/-! ### The store write list -/

@[simp] theorem State.pumpStore_journal (s : State) : s.pumpStore.journal = s.journal := by rw [State.pumpStore_frame]

@[simp] theorem State.placeRequest_journal (s : State) (r : StoreRequest) : (s.placeRequest r).journal = s.journal :=
  State.pumpStore_journal _

theorem State.pumpStore_journalFormed (h : s.journal.Formed) : s.pumpStore.journal.Formed := by rwa [State.pumpStore_journal]

theorem State.placeRequest_journalFormed {r : StoreRequest} (h : s.journal.Formed) : (s.placeRequest r).journal.Formed := by
  rwa [State.placeRequest_journal]

/-! ### The Check Table -/

theorem State.settleCheck_journalFormed {n : Nat} (h : s.journal.Formed) : (s.settleCheck n).journal.Formed := by
  unfold State.settleCheck
  split
  · exact h
  · dsimp only
    split
    · exact State.offer_journalFormed h
    · exact h

theorem State.releaseHold_journalFormed {check share r : Nat} (h : s.journal.Formed) :
    (s.releaseHold check share r).journal.Formed := by
  unfold State.releaseHold
  split <;> exact h

theorem State.commitChange_journalFormed {c : Check} {ch : Change} {b : Bool} (h : s.journal.Formed) :
    (s.commitChange c ch b).journal.Formed := State.appendRecord_journalFormed h

theorem takeChange_journalFormed {n : Nat} {tag : U8} {ch : Change} (h : s.journal.Formed) :
    (takeChange n tag ch s).1.journal.Formed := by
  unfold takeChange
  split
  · exact h
  · split
    · exact h
    · split
      · exact h
      · split
        · exact State.settleCheck_journalFormed (State.commitChange_journalFormed h)
        · exact State.settleCheck_journalFormed h

theorem State.applyParked_journalFormed {c : Check} {p : Parked} (h : s.journal.Formed) : (s.applyParked c p).journal.Formed := by
  unfold State.applyParked
  dsimp only
  split
  · exact State.offer_journalFormed h
  · exact State.offer_journalFormed (State.commitChange_journalFormed h)

theorem State.departure_journalFormed {n : Nat} (h : s.journal.Formed) : (s.departure n).journal.Formed := by
  unfold State.departure
  split
  · exact h
  · dsimp only
    split
    · exact h
    · split
      · exact State.settleCheck_journalFormed (State.applyParked_journalFormed h)
      · exact State.settleCheck_journalFormed h

/-! ### Uplink Control -/

theorem State.changeUplink_journalFormed {new : UplinkState} {cause : SetBy} {count : Nat} (h : s.journal.Formed) :
    (s.changeUplink new cause count).journal.Formed := State.appendRecord_journalFormed h

theorem State.countExpiry_journalFormed (h : s.journal.Formed) : s.countExpiry.journal.Formed := by
  unfold State.countExpiry
  dsimp only
  split
  · exact State.raise_journalFormed (State.changeUplink_journalFormed h)
  · exact h

theorem forwardWithin_journalFormed {n : Nat} (h : s.journal.Formed) : (forwardWithin n s).journal.Formed := by
  induction n generalizing s with
  | zero => exact h
  | succ n ih =>
    rw [forwardWithin]
    split
    · split
      · exact ih (s := State.setUplink _ _) (State.offer_journalFormed h)
      · exact h
    · exact h

theorem State.forwardEntries_journalFormed (h : s.journal.Formed) : s.forwardEntries.journal.Formed := forwardWithin_journalFormed h

theorem State.approveOffline_journalFormed {t : Tender} (h : s.journal.Formed) : (s.approveOffline t).journal.Formed :=
  State.placeRequest_journalFormed h

/-! ### The Tender Pool: leaving, posting and ending -/

theorem State.leavePool_journalFormed {t : Tender} {reason : EndReason} (h : s.journal.Formed) :
    (s.leavePool t reason).journal.Formed :=
  State.departure_journalFormed h

theorem State.postToCheck_journalFormed {t : Tender} (h : s.journal.Formed) : (s.postToCheck t).journal.Formed := by
  unfold State.postToCheck
  split
  · exact h
  · next c _ =>
    have hposted : ∀ {f : Frame}, (((s.putCheck (c.post t.share t.ps t.pt)).appendRecord (postedRecord t c.nextReceipt)).offer
        f).journal.Formed := State.offer_journalFormed (State.appendRecord_journalFormed h)
    dsimp only
    split
    · exact State.offer_journalFormed hposted
    · exact hposted

theorem State.postTender_journalFormed {t : Tender} (h : s.journal.Formed) : (s.postTender t).journal.Formed :=
  State.leavePool_journalFormed (s := State.putSlot _ _ _) (State.postToCheck_journalFormed h)

theorem postWithin_journalFormed {n check : Nat} (h : s.journal.Formed) : (postWithin n check s).journal.Formed := by
  induction n generalizing s with
  | zero => exact h
  | succ n ih =>
    rw [postWithin]
    split
    · split
      · exact ih (State.postTender_journalFormed h)
      · exact h
    · exact h

theorem State.postReady_journalFormed {check : Nat} (h : s.journal.Formed) :
    (s.postReady check).journal.Formed := postWithin_journalFormed h

/-- A tender ends in the form where the records and messages of its rule keep it (R63). -/
theorem State.endTender_journalFormed {t : Tender} {reason : EndReason} {messages : State → State} (h : s.journal.Formed)
    (hm : ∀ u : State, u.journal.Formed → (messages u).journal.Formed) : (s.endTender t reason messages).journal.Formed := by
  unfold State.endTender
  dsimp only
  split
  · exact State.postReady_journalFormed (State.leavePool_journalFormed (hm _ (State.releaseHold_journalFormed h)))
  · exact State.leavePool_journalFormed (hm _ (State.releaseHold_journalFormed h))

theorem State.decline_journalFormed {t : Tender} {reason : U8} {host : Bool} (h : s.journal.Formed) :
    (s.decline t reason host).journal.Formed :=
  State.endTender_journalFormed h fun _ hu => State.appendRecord_journalFormed hu

/-! ### The Tender Pool: intake, results and expiry -/

theorem State.enterPool_journalFormed {t : Tender} {c : Check} (h : s.journal.Formed) : (s.enterPool t c).journal.Formed :=
  State.settleCheck_journalFormed (s := s.putCheck _) h

theorem State.issueOnline_journalFormed {t : Tender} {c : Check} (h : s.journal.Formed) : (s.issueOnline t c).journal.Formed :=
  State.offer_journalFormed (State.enterPool_journalFormed h)

theorem State.issueOffline_journalFormed {t : Tender} {c : Check} (h : s.journal.Formed) : (s.issueOffline t c).journal.Formed := by
  unfold State.issueOffline
  split
  · exact State.decline_journalFormed (State.enterPool_journalFormed h)
  · exact State.approveOffline_journalFormed (State.enterPool_journalFormed h)

theorem State.takePresent_journalFormed {i : Slot} {p : Presentment} (h : s.journal.Formed) :
    (s.takePresent i p).journal.Formed := by
  unfold State.takePresent
  split
  · exact h
  · dsimp only
    split
    · exact State.issueOnline_journalFormed h
    · exact State.issueOffline_journalFormed h

theorem State.takeCancel_journalFormed {i : Slot} {tag : U8} (h : s.journal.Formed) : (s.takeCancel i tag).journal.Formed := by
  unfold State.takeCancel
  split
  · exact h
  · split
    · exact h
    · split <;> exact h

theorem State.overApproval_journalFormed {t : Tender} {approved : Nat} {bytes : Bytes} (h : s.journal.Formed) :
    (s.overApproval t approved bytes).journal.Formed := by
  unfold State.overApproval
  split
  · exact State.raise_journalFormed h
  · exact h

theorem State.takeApproval_journalFormed {t : Tender} {approved : Nat} {code bytes : Bytes} (h : s.journal.Formed) :
    (s.takeApproval t approved code bytes).journal.Formed :=
  State.postReady_journalFormed (State.placeOutcome_journalFormed (State.releaseHold_journalFormed (s := State.putTender _ _)
    (State.overApproval_journalFormed h)))

theorem State.takeCancelled_journalFormed {t : Tender} {approved : Nat} {code bytes : Bytes} (h : s.journal.Formed) :
    (s.takeCancelled t approved code bytes).journal.Formed := by
  unfold State.takeCancelled
  refine State.endTender_journalFormed h fun u hu => State.placeOutcome_journalFormed (State.appendRecord_journalFormed ?_)
  split
  · exact State.offer_journalFormed (State.appendRecord_journalFormed (State.overApproval_journalFormed hu))
  · exact hu

theorem State.takeResult_journalFormed {t : Tender} {approved : Nat} {code bytes : Bytes} {reason : U8} (h : s.journal.Formed) :
    (s.takeResult t approved code bytes reason).journal.Formed := by
  unfold State.takeResult
  split
  · exact State.takeCancelled_journalFormed h
  · split
    · exact State.takeApproval_journalFormed h
    · exact State.decline_journalFormed h

theorem authResult_journalFormed {bytes : Bytes} {tender : U16} {outcome : U8} {approved : U32} {code : Bytes} {reason : U8}
    (h : s.journal.Formed) : (authResult bytes tender outcome approved code reason s).1.journal.Formed := by
  unfold authResult
  split
  · exact h
  · split
    · exact h
    · split
      · split
        · exact State.takeResult_journalFormed h
        · exact State.raise_journalFormed h
      · split <;> exact State.raise_journalFormed h

theorem State.expireTender_journalFormed {t : Tender} (h : s.journal.Formed) : (s.expireTender t).journal.Formed :=
  State.endTender_journalFormed h fun _ hu => State.countExpiry_journalFormed (State.raise_journalFormed
    (State.placeOutcome_journalFormed (State.offer_journalFormed (State.appendRecord_journalFormed hu))))

theorem State.storedTender_journalFormed {t : Tender} (h : s.journal.Formed) : (s.storedTender t).journal.Formed :=
  State.postReady_journalFormed (State.placeOutcome_journalFormed h)

end Sys2Proof.Machine
end

section
/-! The journal's form along every command and every event (R115, R116, R119). A branch that does not reach an operation of the
Journal leaves its storage, floor and next number, so the hypothesis itself closes it. -/

namespace Sys2Proof.Machine

open Sys2Proof

variable {s : State}

/-- What every turn of a loop keeps, the loop keeps. -/
theorem foldl_journalFormed {α : Type} (f : State → α → State) (l : List α)
    (hf : ∀ (u : State) (a : α), u.journal.Formed → (f u a).journal.Formed) (h : s.journal.Formed) :
    (l.foldl f s).journal.Formed := by
  induction l generalizing s with
  | nil => exact h
  | cons a l ih => exact ih (hf s a h)

/-! ### The Check Table's commands -/

theorem openCheck_journalFormed {check table : U16} {covers mode : U8} {plan : Option PlanBytes} (h : s.journal.Formed) :
    (openCheck check table covers mode plan s).1.journal.Formed := by
  unfold openCheck
  split
  · exact h
  · split
    · exact h
    · split
      · split
        · exact h
        · split
          · exact h
          · split
            · exact h
            · exact State.appendRecord_journalFormed (State.settleCheck_journalFormed (s := s.setChecks _) h)
      · exact h

theorem addItem_journalFormed {tag : U8} {check : U16} {price : U32} {quantity taxClass : U8} {seats : U32} (h : s.journal.Formed) :
    (addItem tag check price quantity taxClass seats s).1.journal.Formed := by
  unfold addItem
  split
  · exact h
  · split
    · exact h
    · exact takeChange_journalFormed h

theorem voidItem_journalFormed {tag : U8} {check : U16} {line : U8} (h : s.journal.Formed) :
    (voidItem tag check line s).1.journal.Formed := by
  unfold voidItem
  split
  · exact h
  · split
    · exact h
    · exact takeChange_journalFormed h

theorem setSplit_journalFormed {tag : U8} {check : U16} {plan : PlanBytes} (h : s.journal.Formed) :
    (setSplit tag check plan s).1.journal.Formed := by
  unfold setSplit
  split
  · exact h
  · split
    · exact h
    · split
      · exact h
      · exact takeChange_journalFormed h

theorem setCovers_journalFormed {tag : U8} {check : U16} {covers : U8} (h : s.journal.Formed) :
    (setCovers tag check covers s).1.journal.Formed := by
  unfold setCovers
  split
  · exact h
  · split
    · exact h
    · exact takeChange_journalFormed h

theorem closeCheck_journalFormed {check : U16} (h : s.journal.Formed) : (closeCheck check s).1.journal.Formed := by
  unfold closeCheck
  split
  · exact h
  · split
    · exact h
    · split
      · exact h
      · split
        · exact h
        · split
          · exact State.appendRecord_journalFormed h
          · exact h

theorem voidCheck_journalFormed {check : U16} (h : s.journal.Formed) : (voidCheck check s).1.journal.Formed := by
  unfold voidCheck
  split
  · exact h
  · split
    · exact h
    · split
      · exact h
      · split
        · exact h
        · split
          · exact h
          · exact State.appendRecord_journalFormed h

/-! ### Uplink Control's commands -/

theorem uplinkState_journalFormed {state : U8} (h : s.journal.Formed) : (uplinkState state s).1.journal.Formed := by
  unfold uplinkState
  split
  · dsimp only
    split
    · exact State.forwardEntries_journalFormed (State.changeUplink_journalFormed h)
    · exact h
  · split
    · dsimp only
      split
      · exact State.changeUplink_journalFormed h
      · exact h
    · exact h

theorem forwardResult_journalFormed {bytes : Bytes} {number : U32} {outcome reason : U8} (h : s.journal.Formed) :
    (forwardResult bytes number outcome reason s).1.journal.Formed := by
  unfold forwardResult
  split
  · exact h
  · split
    · exact State.raise_journalFormed h
    · next e _ =>
      have hfreed : ∀ u, (s.setUplink u).pumpStore.journal.Formed := fun u => State.pumpStore_journalFormed h
      apply State.forwardEntries_journalFormed
      split
      · exact State.appendRecord_journalFormed (hfreed _)
      · exact State.raise_journalFormed (State.offer_journalFormed (State.appendRecord_journalFormed (hfreed _)))

theorem forwardRestart_journalFormed (h : s.journal.Formed) : (forwardRestart s).1.journal.Formed :=
  State.forwardEntries_journalFormed (s := s.setUplink _) h

/-! ### The radio side -/

theorem State.movePresence_journalFormed {i : Slot} {new : Presence} {id : Option Bytes} (h : s.journal.Formed) :
    (s.movePresence i new id).journal.Formed := by
  unfold State.movePresence
  dsimp only
  split
  · exact h
  · split
    · exact State.offer_journalFormed h
    · exact h

theorem State.endProbe_journalFormed {early : Bool} {i : Slot} (h : s.journal.Formed) : (s.endProbe early i).journal.Formed := by
  unfold State.endProbe
  split
  · exact State.offer_journalFormed h
  · exact h

theorem State.endProbes_journalFormed (h : s.journal.Formed) : s.endProbes.journal.Formed := by
  unfold State.endProbes
  exact foldl_journalFormed _ _ (fun _ _ => State.endProbe_journalFormed) h

theorem State.boundaryAt_journalFormed {i : Slot} (h : s.journal.Formed) : (s.boundaryAt i).journal.Formed := by
  unfold State.boundaryAt
  split
  · exact State.endProbe_journalFormed h
  · exact h

theorem exec_superframeBoundary_journalFormed {t : State} (h : s.journal.Formed) (e : exec .superframeBoundary s = .next t) :
    t.journal.Formed := by
  cases hp : s.powered with
  | false =>
    rw [exec_superframeBoundary_off hp] at e
    rwa [← Host.Outcome.next.inj e]
  | true =>
    rw [exec_superframeBoundary hp] at e
    rw [← Host.Outcome.next.inj e]
    exact foldl_journalFormed (s := s.boundaryBegun) State.boundaryAt (List.finRange 64)
      (fun _ _ => State.boundaryAt_journalFormed) h

theorem State.foundAgain_journalFormed {i : Slot} {id : Option Bytes} (h : s.journal.Formed) :
    (s.foundAgain i id).journal.Formed := by
  unfold State.foundAgain
  split
  · exact State.movePresence_journalFormed h
  · exact h

theorem State.takeWake_journalFormed {i : Slot} {id : Bytes} (h : s.journal.Formed) : (s.takeWake i id).journal.Formed := by
  have hpresent : ((s.putSlot i { s.slot i with terminalId := some id }).movePresence i .present (some id)).journal.Formed :=
    State.movePresence_journalFormed h
  unfold State.takeWake
  dsimp only
  split <;> exact hpresent

theorem State.takePick_journalFormed {i : Slot} (h : s.journal.Formed) : (s.takePick i).journal.Formed := by
  unfold State.takePick
  split
  · split <;> exact h
  all_goals exact h

theorem State.handPresent_journalFormed {i : Slot} {p : Presentment} (h : s.journal.Formed) :
    (s.handPresent i p).journal.Formed := by
  unfold State.handPresent
  split
  · exact State.takePresent_journalFormed h
  · exact State.takePresent_journalFormed h
  all_goals exact h

theorem State.handCancel_journalFormed {i : Slot} {tag : U8} (h : s.journal.Formed) : (s.handCancel i tag).journal.Formed := by
  unfold State.handCancel
  split
  · exact State.takeCancel_journalFormed h
  all_goals exact h

theorem State.takeAck_journalFormed {i : Slot} {item : Nat} (h : s.journal.Formed) : (s.takeAck i item).journal.Formed := by
  unfold State.takeAck
  split <;> exact h

theorem State.handleMessage_journalFormed {i : Slot} {m : UplinkMessage} (h : s.journal.Formed) :
    (s.handleMessage i m).journal.Formed := by
  cases m with
  | wake => exact State.takeWake_journalFormed h
  | pick => exact State.takePick_journalFormed h
  | present =>
    rw [State.handleMessage]
    split
    · exact State.handPresent_journalFormed h
    · exact h
  | cancel => exact State.handCancel_journalFormed h
  | ack => exact State.takeAck_journalFormed h
  | echo => exact h

theorem State.useEchoTurn_journalFormed {i : Slot} {m : UplinkMessage} (h : s.journal.Formed) :
    (s.useEchoTurn i m).journal.Formed := by
  cases m <;> exact h

theorem State.takeMessage_journalFormed {i : Slot} {m : UplinkMessage} (h : s.journal.Formed) :
    (s.takeMessage i m).journal.Formed :=
  State.handleMessage_journalFormed (State.foundAgain_journalFormed (State.useEchoTurn_journalFormed h))

theorem State.badFrame_journalFormed {i : Slot} {frame : Bytes} (h : s.journal.Formed) : (s.badFrame i frame).journal.Formed :=
  State.raise_journalFormed (s := s.putSlot _ _) h

theorem State.uplinkTurn_journalFormed {i : Slot} {m : UplinkMessage} (h : s.journal.Formed) :
    (s.uplinkTurn i m).journal.Formed := by
  unfold State.uplinkTurn
  split
  · exact h
  · split
    · exact State.takeMessage_journalFormed h
    · exact State.badFrame_journalFormed h

theorem State.downlinkTurn_journalFormed {i : Slot} (h : s.journal.Formed) : (s.downlinkTurn i).journal.Formed := by
  unfold State.downlinkTurn
  split
  · exact h
  · split <;> exact h

theorem State.echoTurn_journalFormed {i : Slot} (h : s.journal.Formed) : (s.echoTurn i).journal.Formed := by
  unfold State.echoTurn
  split <;> exact h

theorem State.presenceReport_journalFormed {i : Slot} {inRange : Bool} (h : s.journal.Formed) :
    (s.presenceReport i inRange).journal.Formed := by
  unfold State.presenceReport
  split
  · exact h
  · split
    · exact State.movePresence_journalFormed (State.endProbe_journalFormed h)
    · exact State.movePresence_journalFormed h
    all_goals exact h

theorem State.fillSlot_journalFormed {i : Slot} (h : s.journal.Formed) : (s.fillSlot i).journal.Formed := by
  unfold State.fillSlot
  dsimp only
  split <;> exact h

theorem State.fillHalf_journalFormed (h : s.journal.Formed) : s.fillHalf.journal.Formed := by
  have hhalf : ∀ (first : Nat) (r : Radio), ((halfSlots first).foldl State.fillSlot (s.setRadio r)).journal.Formed :=
    fun first _ => foldl_journalFormed State.fillSlot (halfSlots first) (fun _ _ => State.fillSlot_journalFormed) h
  unfold State.fillHalf
  split
  · exact h
  · dsimp only
    split
    · exact h
    · rw [State.setRadio_journal]
      exact hhalf 0 _
    · apply State.offer_journalFormed
      rw [State.setRadio_journal]
      exact hhalf 32 _

theorem routeSlot_journalFormed {slot mode : U8} {check : U16} {text : Bytes} (h : s.journal.Formed) :
    (routeSlot slot mode check text s).1.journal.Formed := by
  unfold routeSlot
  repeat' split
  all_goals exact h

theorem routeFill_journalFormed {mode : U8} {check : U16} {text : Bytes} (h : s.journal.Formed) :
    (routeFill mode check text s).1.journal.Formed := by
  unfold routeFill
  repeat' split
  all_goals exact h

theorem probeSlot_journalFormed {slot : U8} {frames : U32} (h : s.journal.Formed) : (probeSlot slot frames s).1.journal.Formed := by
  unfold probeSlot
  repeat' split
  all_goals exact h

/-! ### The Journal's commands and the bank test -/

theorem State.cutSnapshot_journalFormed {x : Snapshot} (h : s.journal.Formed) : (s.cutSnapshot x).journal.Formed := by
  unfold State.cutSnapshot
  dsimp only
  split <;> exact h

theorem snap_journalFormed {kind : U8} {depth start : U32} {sync : U8} (h : s.journal.Formed) :
    (snap kind depth start sync s).1.journal.Formed := by
  unfold snap
  split
  · exact h
  · split
    · repeat' split
      all_goals exact h
    · exact State.cutSnapshot_journalFormed h

theorem dumpRead_journalFormed (h : s.journal.Formed) : (dumpRead s).1.journal.Formed := by
  unfold dumpRead
  split
  · exact h
  · dsimp only
    split <;> exact h

theorem State.startUpEnds_journalFormed (h : s.journal.Formed) : s.startUpEnds.journal.Formed := by
  unfold State.startUpEnds
  split
  · exact State.raise_journalFormed h
  · exact h

theorem execBankTest_journalFormed {t : State} {pass : Bool} (h : s.journal.Formed) (e : execBankTest pass s = .next t) :
    t.journal.Formed := by
  cases e
  split
  · exact h
  · split
    · exact h
    · apply State.startUpEnds_journalFormed
      split
      · exact h
      · exact State.raise_journalFormed h

/-! ### Run Control's commands -/

theorem leaveHalted_journalFormed {bytes : Bytes} {new : RunState} (h : s.journal.Formed) :
    (leaveHalted bytes new s).1.journal.Formed := by
  unfold leaveHalted
  split
  · exact h
  · split
    · exact h
    · split
      · exact State.raise_journalFormed h
      · exact State.changeRun_journalFormed h

theorem enterHalted_journalFormed (h : s.journal.Formed) : (enterHalted s).1.journal.Formed := by
  unfold enterHalted
  split
  · exact h
  · dsimp only
    exact State.endProbes_journalFormed (State.changeRun_journalFormed h)

theorem setRun_journalFormed {bytes : Bytes} {state : U8} (h : s.journal.Formed) : (setRun bytes state s).1.journal.Formed := by
  unfold setRun
  split
  · exact h
  · split
    · exact h
    · split
      · exact leaveHalted_journalFormed h
      · split
        · exact enterHalted_journalFormed h
        · exact State.changeRun_journalFormed h

theorem intakeHold_journalFormed {value : U8} (h : s.journal.Formed) : (intakeHold value s).1.journal.Formed := by
  unfold intakeHold
  repeat' split
  all_goals exact h

theorem timeSet_journalFormed {clock : U32} (h : s.journal.Formed) : (timeSet clock s).1.journal.Formed := by
  unfold timeSet
  split
  · exact h
  · exact State.appendRecord_journalFormed h

theorem offerWithin_journalFormed {n : Nat} (h : s.journal.Formed) : (offerWithin n s).journal.Formed := by
  induction n generalizing s with
  | zero => exact h
  | succ n ih =>
    rw [offerWithin]
    split
    · exact h
    · split
      · exact ih (State.offer_journalFormed h)
      · exact h

theorem State.offerCloseList_journalFormed (h : s.journal.Formed) : s.offerCloseList.journal.Formed := offerWithin_journalFormed h

theorem shiftClose_journalFormed (h : s.journal.Formed) : (shiftClose s).1.journal.Formed := by
  unfold shiftClose
  split
  · exact h
  · exact State.appendRecord_journalFormed h

theorem shiftCloseCommand_journalFormed {tag : U8} (h : s.journal.Formed) : (shiftCloseCommand tag s).journal.Formed := by
  have hreplied : ((shiftClose s.owe).1.queueReply s.line.queue.length ((shiftClose s.owe).2.frame 0x31 tag)).journal.Formed := by
    rw [State.queueReply_journal]
    exact shiftClose_journalFormed h
  unfold shiftCloseCommand
  dsimp only
  split
  · exact State.offerCloseList_journalFormed hreplied
  · exact hreplied

theorem settingWriteCommand_journalFormed {tag setting : U8} {value : U32} (h : s.journal.Formed) :
    (settingWriteCommand tag setting value s).journal.Formed := by
  unfold settingWriteCommand
  split
  · rwa [State.queueReply_journal]
  · exact State.placeRequest_journalFormed h

/-! ### Fault Capture's commands -/

theorem faultClear_journalFormed {cls : U8} (h : s.journal.Formed) : (faultClear cls s).1.journal.Formed := by
  unfold faultClear
  split <;> exact h

theorem faultMask_journalFormed {code mask cls : U8} (h : s.journal.Formed) : (faultMask code mask cls s).1.journal.Formed := by
  unfold faultMask
  split
  · split <;> exact h
  · exact h

theorem faultInject_journalFormed {bytes : Bytes} {code : U8} (h : s.journal.Formed) :
    (faultInject bytes code s).1.journal.Formed := by
  unfold faultInject
  split
  · exact h
  · split
    · exact h
    · exact State.raise_journalFormed h

/-! ### Resets and power -/

/-- A line reset keeps the storage, the floor and the numbering (R133). -/
theorem State.lineReset_journalFormed {cause : ResetCause} (h : s.journal.Formed) : (s.lineReset cause).journal.Formed :=
  State.pumpStore_journalFormed h

theorem State.commandReset_journalFormed {tag : U8} (h : s.journal.Formed) : (s.commandReset tag).journal.Formed :=
  State.appendRecord_journalFormed (State.lineReset_journalFormed h)

theorem resetCommand_journalFormed {tag : U8} (h : s.journal.Formed) : (resetCommand tag s).journal.Formed := by
  unfold resetCommand
  dsimp only
  have hreset : (s.commandReset tag).journal.Formed := State.commandReset_journalFormed h
  split
  · split <;> exact hreset
  · exact hreset

theorem execResetPinFall_journalFormed {t : State} (h : s.journal.Formed) (e : execResetPinFall s = .next t) :
    t.journal.Formed := by
  cases e
  split
  · exact h
  · dsimp only
    split
    · exact State.lineReset_journalFormed h
    · exact h

theorem execResetPinRise_journalFormed {t : State} (h : s.journal.Formed) (e : execResetPinRise s = .next t) :
    t.journal.Formed := by
  cases e
  dsimp only
  split
  · exact h
  · exact h
  · exact h
  · exact State.appendRecord_journalFormed h

theorem raiseEntryBad_journalFormed {n : Nat} (h : s.journal.Formed) : (raiseEntryBad n s).journal.Formed := by
  induction n generalizing s with
  | zero => exact h
  | succ n ih => exact ih (State.raise_journalFormed h)

theorem State.powerOn_journalFormed (s : State) : s.powerOn.journal.Formed := by
  have hread : (raiseEntryBad s.store.badUnits s.reloaded).journal.Formed := raiseEntryBad_journalFormed (Journal.start_formed _ _)
  unfold State.powerOn
  dsimp only
  split
  · exact State.placeRequest_journalFormed hread
  · exact hread

theorem execLossOfPower_journalFormed {t : State} {cut : PowerCut} (h : s.journal.Formed) (e : execLossOfPower cut s = .next t) :
    t.journal.Formed := by
  cases e
  split
  · exact h
  · exact Journal.start_formed 0 7

/-! ### The ends of store writes -/

theorem State.startWriteFault_journalFormed (h : s.journal.Formed) : s.startWriteFault.journal.Formed := by
  unfold State.startWriteFault
  split
  · exact h
  · exact State.raise_journalFormed h

theorem State.forceSetting_journalFormed {n v : Nat} (h : s.journal.Formed) : (s.forceSetting n v).journal.Formed := by
  unfold State.forceSetting
  dsimp only
  have hput : ∀ (st : SettingStore) (r : Radio) (after : Settings),
      (if n = 18 ∨ n = 19 then ((s.setStore st).setRadio r).setJournal (((s.setStore st).setRadio r).journal.follow after)
        else (s.setStore st).setRadio r).journal.Formed := by
    intro st r after
    split
    · exact Journal.follow_formed h
    · exact h
  split
  · exact State.forwardEntries_journalFormed (hput _ _ _)
  · exact hput _ _ _

theorem execSettingWriteComplete_journalFormed {t : State} (h : s.journal.Formed) (e : execSettingWriteComplete s = .next t) :
    t.journal.Formed := by
  cases e
  split
  · split
    · apply State.pumpStore_journalFormed
      rw [State.queueReply_journal]
      exact State.forceSetting_journalFormed h
    · exact State.pumpStore_journalFormed h
    all_goals exact h
  · exact h

theorem execSettingWriteFail_journalFormed {t : State} (h : s.journal.Formed) (e : execSettingWriteFail s = .next t) :
    t.journal.Formed := by
  cases e
  split
  · split
    · apply State.pumpStore_journalFormed
      rw [State.queueReply_journal]
      exact State.raise_journalFormed h
    · exact State.pumpStore_journalFormed (State.startWriteFault_journalFormed h)
    all_goals exact h
  · exact h

theorem State.appendDone_journalFormed {number : Nat} (h : s.journal.Formed) : (s.appendDone number).journal.Formed := by
  unfold State.appendDone
  split
  · apply State.forwardEntries_journalFormed
    dsimp only
    split
    · exact State.storedTender_journalFormed (State.appendRecord_journalFormed h)
    · exact State.appendRecord_journalFormed h
  · exact h

theorem State.appendLost_journalFormed {number : Nat} (h : s.journal.Formed) : (s.appendLost number).journal.Formed := by
  unfold State.appendLost
  split
  · dsimp only
    split
    · exact State.decline_journalFormed h
    · exact h
  · exact h

theorem State.appendFails_journalFormed {w : WriteInProgress} (h : s.journal.Formed) : (s.appendFails w).journal.Formed := by
  unfold State.appendFails
  split <;> exact h

theorem execForwardAppendComplete_journalFormed {t : State} (h : s.journal.Formed) (e : execForwardAppendComplete s = .next t) :
    t.journal.Formed := by
  cases e
  split
  · split
    · exact State.pumpStore_journalFormed (State.appendDone_journalFormed h)
    · exact h
  · exact h

theorem execForwardAppendFail_journalFormed {t : State} (h : s.journal.Formed) (e : execForwardAppendFail s = .next t) :
    t.journal.Formed := by
  cases e
  split
  · split
    · exact State.pumpStore_journalFormed (State.raise_journalFormed
        (State.appendLost_journalFormed (State.appendFails_journalFormed h)))
    all_goals exact h
  · exact h

theorem execForwardFreeComplete_journalFormed {t : State} (h : s.journal.Formed) (e : execForwardFreeComplete s = .next t) :
    t.journal.Formed := by
  cases e
  split
  · split
    · exact State.pumpStore_journalFormed h
    all_goals exact h
  · exact h

theorem execForwardFreeFail_journalFormed {t : State} (h : s.journal.Formed) (e : execForwardFreeFail s = .next t) :
    t.journal.Formed := by
  cases e
  split
  · split
    · exact State.pumpStore_journalFormed (State.raise_journalFormed h)
    all_goals exact h
  · exact h

/-! ### The server line -/

/-- A query leaves the state; the other commands keep the form as their owners do (R169, R174). -/
theorem runHost_journalFormed {bytes : Bytes} {tag : U8} {c : HostCommand} (h : s.journal.Formed) :
    (runHost bytes tag c s).journal.Formed := by
  cases c with
  | openCheck => exact State.answer_journalFormed (openCheck_journalFormed h)
  | addItem => exact State.answer_journalFormed (addItem_journalFormed h)
  | voidItem => exact State.answer_journalFormed (voidItem_journalFormed h)
  | setSplit => exact State.answer_journalFormed (setSplit_journalFormed h)
  | setCovers => exact State.answer_journalFormed (setCovers_journalFormed h)
  | checkQuery =>
    apply State.answer_journalFormed
    unfold checkQuery
    repeat' split
    all_goals exact h
  | closeCheck => exact State.answer_journalFormed (closeCheck_journalFormed h)
  | voidCheck => exact State.answer_journalFormed (voidCheck_journalFormed h)
  | authResult => exact State.answer_journalFormed (authResult_journalFormed h)
  | tenderQuery =>
    apply State.answer_journalFormed
    unfold tenderQuery
    repeat' split
    all_goals exact h
  | uplinkState => exact State.answer_journalFormed (uplinkState_journalFormed h)
  | forwardResult => exact State.answer_journalFormed (forwardResult_journalFormed h)
  | forwardRestart => exact State.answer_journalFormed (forwardRestart_journalFormed h)
  | forwardQuery =>
    apply State.answer_journalFormed
    unfold forwardQuery
    split <;> exact h
  | routeSlot => exact State.answer_journalFormed (routeSlot_journalFormed h)
  | routeFill => exact State.answer_journalFormed (routeFill_journalFormed h)
  | probeSlot => exact State.answer_journalFormed (probeSlot_journalFormed h)
  | slotQuery =>
    apply State.answer_journalFormed
    unfold slotQuery
    split <;> exact h
  | snap => exact State.answer_journalFormed (snap_journalFormed h)
  | dumpRead => exact State.answer_journalFormed (dumpRead_journalFormed h)
  | journalStatus => exact State.answer_journalFormed h
  | setRun => exact State.answer_journalFormed (setRun_journalFormed h)
  | intakeHold => exact State.answer_journalFormed (intakeHold_journalFormed h)
  | timeSet => exact State.answer_journalFormed (timeSet_journalFormed h)
  | runQuery => exact State.answer_journalFormed h
  | settingRead =>
    apply State.answer_journalFormed
    unfold settingRead
    repeat' split
    all_goals exact h
  | settingWrite => exact settingWriteCommand_journalFormed h
  | reset => exact resetCommand_journalFormed h
  | faultRead => exact State.answer_journalFormed h
  | faultClear => exact State.answer_journalFormed (faultClear_journalFormed h)
  | faultMask => exact State.answer_journalFormed (faultMask_journalFormed h)
  | faultInject => exact State.answer_journalFormed (faultInject_journalFormed h)
  | shiftQuery =>
    apply State.answer_journalFormed
    unfold shiftQuery
    split <;> exact h
  | shiftClose => exact shiftCloseCommand_journalFormed h

theorem State.takeCommand_journalFormed {bytes : Bytes} {tag : U8} {c : HostCommand} (h : s.journal.Formed) :
    (s.takeCommand bytes tag c).journal.Formed := by
  unfold State.takeCommand
  split
  · exact State.answer_journalFormed h
  · exact runHost_journalFormed h

theorem State.hostRow_journalFormed {tag : U8} {c : HostCommand} (h : s.journal.Formed) : (s.hostRow tag c).journal.Formed := by
  unfold State.hostRow
  split
  · exact h
  · split
    · exact State.takeCommand_journalFormed h
    · exact h

theorem State.deliver_journalFormed {f : Bytes} (h : s.journal.Formed) : (s.deliver f).journal.Formed := by
  unfold State.deliver
  dsimp only
  split
  · rw [State.queueReply_journal]
    exact State.raise_journalFormed h
  · split
    · exact State.answer_journalFormed h
    · split
      · exact State.answer_journalFormed h
      · exact State.takeCommand_journalFormed h

theorem State.takeFrame_journalFormed {f : Bytes} (h : s.journal.Formed) : (s.takeFrame f).journal.Formed := by
  unfold State.takeFrame
  split
  · exact State.deliver_journalFormed h
  · exact h

theorem State.completeFrame_journalFormed {f : Bytes} (h : s.journal.Formed) : (s.completeFrame f).journal.Formed := by
  unfold State.completeFrame
  dsimp only
  split
  · exact State.takeFrame_journalFormed h
  · exact State.raise_journalFormed h

theorem State.lengthByte_journalFormed {b : U8} (h : s.journal.Formed) : (s.lengthByte b).journal.Formed := by
  unfold State.lengthByte
  dsimp only
  split
  · exact h
  · split
    · exact h
    · exact State.raise_journalFormed h

theorem State.collectByte_journalFormed {b : U8} (h : s.journal.Formed) : (s.collectByte b).journal.Formed := by
  unfold State.collectByte
  dsimp only
  split
  · exact h
  · exact State.completeFrame_journalFormed h

theorem execServerByte_journalFormed {t : State} {byte : U8} (h : s.journal.Formed) (e : execServerByte byte s = .next t) :
    t.journal.Formed := by
  cases e
  split
  · exact h
  · split
    · split <;> exact h
    · exact State.lengthByte_journalFormed h
    · exact State.collectByte_journalFormed h
    · exact h

theorem execGapTimerExpiry_journalFormed {t : State} (h : s.journal.Formed) (e : execGapTimerExpiry s = .next t) :
    t.journal.Formed := by
  cases e
  split
  · exact State.raise_journalFormed h
  · exact h

theorem execHeldCommandDispatch_journalFormed {t : State} (h : s.journal.Formed) (e : execHeldCommandDispatch s = .next t) :
    t.journal.Formed := by
  cases e
  split
  · exact h
  · split
    · exact State.deliver_journalFormed h
    · exact h

theorem execFrameSent_journalFormed {t : State} (h : s.journal.Formed) (e : execFrameSent s = .next t) : t.journal.Formed := by
  cases e
  split
  · exact State.offerCloseList_journalFormed h
  · exact h

/-! ### Every instruction -/

theorem execAuthExpiry_journalFormed {t : State} {tender : U16} (h : s.journal.Formed) (e : execAuthExpiry tender s = .next t) :
    t.journal.Formed := by
  unfold execAuthExpiry at e
  split at e
  · cases e
    split
    · exact State.expireTender_journalFormed h
    · exact h
  · cases e
    exact h

theorem execClockStep_journalFormed {t : State} (h : s.journal.Formed) (e : execClockStep s = .next t) : t.journal.Formed := by
  cases e
  split <;> exact h

theorem execSnapLineFallingEdge_journalFormed {t : State} (h : s.journal.Formed) (e : execSnapLineFallingEdge s = .next t) :
    t.journal.Formed := by
  cases e
  split
  · exact State.offer_journalFormed (State.cutSnapshot_journalFormed h)
  · exact h

theorem execBadUplinkFrame_journalFormed {t : State} {i : Slot} {frame : Bytes} (h : s.journal.Formed)
    (e : execBadUplinkFrame i frame s = .next t) : t.journal.Formed := by
  cases e
  split
  · exact h
  · split
    · exact State.takeMessage_journalFormed h
    · exact State.badFrame_journalFormed h

/-- A command of the server line keeps the form through its row; each event keeps it by its own meaning. -/
theorem exec_journalFormed {i : Instr} {t : State} (h : s.journal.Formed) (e : exec i s = .next t) : t.journal.Formed := by
  cases hrow : hostRowOf i with
  | some row =>
    rw [exec_hostRowOf hrow] at e
    cases e
    exact State.hostRow_journalFormed h
  | none =>
    cases i with
    | powerOn => cases e; exact State.powerOn_journalFormed s
    | bankTest => exact execBankTest_journalFormed h e
    | resetPinFall => exact execResetPinFall_journalFormed h e
    | resetPinRise => exact execResetPinRise_journalFormed h e
    | clockStep => exact execClockStep_journalFormed h e
    | authExpiry => exact execAuthExpiry_journalFormed h e
    | superframeBoundary => exact exec_superframeBoundary_journalFormed h e
    | fillHalf => cases e; exact State.fillHalf_journalFormed h
    | downlinkTurn => cases e; exact State.downlinkTurn_journalFormed h
    | echoTurn => cases e; exact State.echoTurn_journalFormed h
    | presenceReport => cases e; exact State.presenceReport_journalFormed h
    | wake => cases e; exact State.uplinkTurn_journalFormed h
    | pick => cases e; exact State.uplinkTurn_journalFormed h
    | present => cases e; exact State.uplinkTurn_journalFormed h
    | cancel => cases e; exact State.uplinkTurn_journalFormed h
    | ack => cases e; exact State.uplinkTurn_journalFormed h
    | echo => cases e; exact State.uplinkTurn_journalFormed h
    | snapLineFallingEdge => exact execSnapLineFallingEdge_journalFormed h e
    | serverByte => exact execServerByte_journalFormed h e
    | gapTimerExpiry => exact execGapTimerExpiry_journalFormed h e
    | heldCommandDispatch => exact execHeldCommandDispatch_journalFormed h e
    | frameSent => exact execFrameSent_journalFormed h e
    | settingWriteComplete => exact execSettingWriteComplete_journalFormed h e
    | settingWriteFail => exact execSettingWriteFail_journalFormed h e
    | forwardAppendComplete => exact execForwardAppendComplete_journalFormed h e
    | forwardAppendFail => exact execForwardAppendFail_journalFormed h e
    | forwardFreeComplete => exact execForwardFreeComplete_journalFormed h e
    | forwardFreeFail => exact execForwardFreeFail_journalFormed h e
    | lossOfPower => exact execLossOfPower_journalFormed h e
    | badUplinkFrame => exact execBadUplinkFrame_journalFormed h e
    | _ => cases hrow

end Sys2Proof.Machine

open Sys2Proof Sys2Proof.Machine

/-- Settles O3: an idle step changes nothing, and every instruction keeps the journal's form. -/
theorem stepKeepsJournalFormed : Obligations.StepKeepsJournalFormed := by
  intro s t h e
  unfold step at e
  split at e
  · cases e
    exact h
  · next rest _ => exact exec_journalFormed (s := s.setPending rest) h e

end

section
/-! Where an appended record stands: its cell, the cells of one span's length of numbers, and the append itself (R116, R119). -/

namespace Sys2Proof.Machine

open Sys2Proof

section
variable {j : Journal}

theorem Journal.cellOf_lt (j : Journal) (n : Nat) : j.cellOf n < 4096 := by
  unfold Journal.cellOf Config.bankSize
  omega

/-- Fewer than a span's length apart, two numbers leave different remainders. -/
theorem mod_ne_of_lt_add {n m size : Nat} (h : n < m) (hm : m < n + size) : n % size ≠ m % size := fun heq => by
  have hdvd : size ∣ m - n := Nat.dvd_of_mod_eq_zero (Nat.sub_mod_eq_zero_of_mod_eq heq.symm)
  have hle := Nat.le_of_dvd (by omega) hdvd
  omega

/-- The banks of a span of at most 8 are different, so its places lie in different cells (R116). -/
theorem Journal.cellOf_ne {n m : Nat} (he : j.extent ≤ 7) (h : n < m) (hm : m < n + j.size) : j.cellOf n ≠ j.cellOf m := by
  have hpos : 0 < j.size := by omega
  have hn' := Nat.mod_lt n hpos
  have hm' := Nat.mod_lt m hpos
  have hne := mod_ne_of_lt_add h hm
  unfold Journal.cellOf
  generalize n % j.size = p at hn' hne ⊢
  generalize m % j.size = q at hm' hne ⊢
  unfold Journal.size at hn' hm'
  unfold Config.bankSize at hn' hm' ⊢
  omega

theorem Journal.append_exhausted {clock : Nat} {r : JournalRecord} (h : 4294967296 ≤ j.next) : j.append clock r = j :=
  if_neg (Nat.not_lt.mpr h)

theorem Journal.append_written {clock : Nat} {r : JournalRecord} (h : j.next < 4294967296) :
    j.append clock r =
      { j with cells := cellsWrite (j.cellOf j.next) { r with seq := j.next, time := clock } j.cells, next := j.next + 1 } :=
  if_pos h

end

end Sys2Proof.Machine

open Sys2Proof Sys2Proof.Machine

/-- Settles O48: the append writes the cell of the next number, and 512 places of at most 8 banks make different cells. -/
theorem appendWritten : Obligations.AppendWritten := by
  intro j clock r hwf he
  refine ⟨Journal.append_exhausted, fun h => ?_, fun n m => Journal.cellOf_ne he, j.cellOf_lt⟩
  rw [Journal.append_written h]
  exact ⟨rfl, cellsWrite_wf _ _ _ hwf, cellsRead_write_same _ _ _, fun cell hne => cellsRead_write_ne _ hne _⟩

end

section
/-! SNAP and the falling edge of the SNAP line (R124 to R129). -/

namespace Sys2Proof.Machine

open Sys2Proof

/-! ### Ranges -/

theorem Journal.relative_eq (j : Journal) (depth : Nat) (cause : SnapCause) :
    j.relative depth cause =
      { start := max j.oldest (j.next - j.depth depth), stop := if j.oldest < j.next then some (j.next - 1) else none
        pointer := max j.oldest (j.next - j.depth depth), lapped := 0, cause := cause } := by
  simp only [Journal.relative, Journal.holdsRecord, decide_eq_true_eq]
  rfl

theorem Journal.absolute_eq (j : Journal) (start depth : Nat) (cause : SnapCause) :
    j.absolute start depth cause =
      { start := max j.oldest start
        stop := if j.oldest < j.next ∧ max j.oldest start < j.next then
          some (min (max j.oldest start + j.depth depth - 1) (j.next - 1)) else none
        pointer := max j.oldest start, lapped := 0, cause := cause } := by
  simp only [Journal.absolute, Journal.holdsRecord, decide_eq_true_eq]
  rfl

/-! ### The cut and the freeze (R126, R127) -/

section
variable {s : State}

/-- SNAP FREEZE is on in IDLE or SERVING (R127). -/
abbrev State.freezes (s : State) : Prop := s.store.settings.snapFreeze = true ∧ s.run.state ≠ .halted

theorem State.cutSnapshot_eq (s : State) (x : Snapshot) :
    s.cutSnapshot x = { s with
      journal := { s.journal with snapshot := some x }
      run := { s.run with hold := if s.freezes then true else s.run.hold } } := by
  unfold State.cutSnapshot
  by_cases h : s.freezes
  · rw [if_pos h, if_pos h]
    rfl
  · rw [if_neg h, if_neg h]
    rfl

theorem State.freezeMark_eq (h : s.freezes → s.run.hold = false) : s.freezeMark = decide s.freezes := by
  unfold State.freezeMark
  by_cases hf : s.freezes
  · rw [if_pos hf, if_neg (by simp [h hf]), decide_eq_true hf]
  · rw [if_neg hf, decide_eq_false hf]

/-! ### SNAP -/

/-- The depth a SNAP asks for, SNAP DEPTH where it names none (R124). -/
def Settings.askedDepth (st : Settings) (depth : U32) : Nat := if depth = 0 then st.snapDepth else depth.toNat

theorem snap_relative (depth start : U32) (s : State) :
    let x := s.journal.relative (s.store.settings.askedDepth depth) .command
    snap 1 depth start 0 s = (s.cutSnapshot x, .accepted (snapData s.journal x s.freezeMark)) := rfl

theorem snap_absolute (depth start : U32) (s : State) :
    let x := s.journal.absolute start.toNat (s.store.settings.askedDepth depth) .command
    snap 2 depth start 0 s = (s.cutSnapshot x, .accepted (snapData s.journal x s.freezeMark)) := rfl

section
variable {kind : U8} {depth start : U32}

/-- With sync option on, a SNAP of either kind goes to the tests of R128. -/
theorem snap_sync (hk : kind = 1 ∨ kind = 2) :
    snap kind depth start 1 s =
      if !s.store.settings.snapSync then s.refuse .range
      else if s.journal.drive ≠ .idle then s.refuse .busy
      else (s.setJournal { s.journal with drive := .due }, .accepted snapSyncData) := by
  rcases hk with rfl | rfl <;> rfl

theorem snap_sync_off (hk : kind = 1 ∨ kind = 2) (hs : s.store.settings.snapSync = false) :
    snap kind depth start 1 s = s.refuse .range := by
  rw [snap_sync hk, if_pos (by simp [hs])]

theorem snap_sync_busy (hk : kind = 1 ∨ kind = 2) (hs : s.store.settings.snapSync = true) (hd : s.journal.drive ≠ .idle) :
    snap kind depth start 1 s = s.refuse .busy := by
  rw [snap_sync hk, if_neg (by simp [hs]), if_pos hd]

theorem snap_sync_due (hk : kind = 1 ∨ kind = 2) (hs : s.store.settings.snapSync = true) (hd : s.journal.drive = .idle) :
    snap kind depth start 1 s = (s.setJournal { s.journal with drive := .due }, .accepted snapSyncData) := by
  rw [snap_sync hk, if_neg (by simp [hs]), if_neg (not_not.mpr hd)]

end

/-! ### The falling edge (R129) -/

theorem exec_snapLineFallingEdge_off (h : s.store.settings.snapSync = false) : exec .snapLineFallingEdge s = .next s :=
  congrArg Host.Outcome.next (if_neg (by simp [h]))

theorem exec_snapLineFallingEdge_cut (hlive : s.live = true) (h : s.store.settings.snapSync = true) :
    let x := s.journal.relative s.store.settings.snapDepth .snapLine
    exec .snapLineFallingEdge s =
      .next ((s.cutSnapshot x).offer (snapshotTakenNotice x s.journal.next s.run.clock s.freezeMark)) :=
  congrArg Host.Outcome.next (if_pos (by simp [hlive, h]))

end

end Sys2Proof.Machine

open Sys2Proof Sys2Proof.Machine

/-- Settles O49: the range of each kind of snapshot, then the cut with its hold and its mark; the sync option and the edge by their
tests. -/
theorem snapshotsCut : Obligations.SnapshotsCut := by
  intro s tag depth start ht hroom j st size oldest freeze d relative absolute cut data hhold
  have hcut : ∀ x, s.cutSnapshot x = cut x := s.cutSnapshot_eq
  have howed : ∀ x, s.owe.cutSnapshot x = (cut x).owe := s.owe.cutSnapshot_eq
  have hmark : s.freezeMark = decide freeze := State.freezeMark_eq hhold
  have hrel : j.relative (st.askedDepth depth) .command = relative d .command := j.relative_eq _ _
  have habs : j.absolute start.toNat (st.askedDepth depth) .command = absolute := j.absolute_eq _ _ _
  refine ⟨?_, ?_, fun kind hk => ⟨fun hoff => ?_, fun hon hd => ?_, fun hon hd => ?_⟩, fun hoff => ?_, fun hon => ?_⟩
  · refine exec_answered_changed (.snap 1 depth start 0) (snap 1 depth start 0) rfl ht rfl rfl rfl ?_ rfl
    refine (snap_relative depth start s.owe).trans (Prod.ext ((congrArg _ hrel).trans (howed _)) ?_)
    show Reply.accepted (snapData j (j.relative (st.askedDepth depth) .command) s.freezeMark) = _
    rw [hrel, hmark]
    rfl
  · refine exec_answered_changed (.snap 2 depth start 0) (snap 2 depth start 0) rfl ht rfl rfl rfl ?_ rfl
    refine (snap_absolute depth start s.owe).trans (Prod.ext ((congrArg _ habs).trans (howed _)) ?_)
    show Reply.accepted (snapData j (j.absolute start.toNat (st.askedDepth depth) .command) s.freezeMark) = _
    rw [habs, hmark]
    rfl
  · exact exec_answered (.snap kind depth start 1) (snap kind depth start 1) rfl ht rfl rfl rfl (snap_sync_off hk hoff)
  · exact exec_answered (.snap kind depth start 1) (snap kind depth start 1) rfl ht rfl rfl rfl (snap_sync_busy hk hon hd)
  · exact exec_answered_changed (.snap kind depth start 1) (snap kind depth start 1) rfl ht rfl rfl rfl
      (snap_sync_due (s := s.owe) hk hon hd) rfl
  · exact exec_snapLineFallingEdge_off hoff
  · intro x
    have hx : s.journal.relative s.store.settings.snapDepth .snapLine = x := j.relative_eq _ _
    have hplaces : (cut x).line.places < 56 := Nat.lt_of_lt_of_le hroom (by decide)
    rw [exec_snapLineFallingEdge_cut ht.1 hon, hx, hmark, hcut, State.offer_room _ _ hplaces]

end

section
/-! DUMP READ and JOURNAL STATUS (R130 to R132). -/

namespace Sys2Proof.Machine

open Sys2Proof

section
variable {s : State} {x : Snapshot}

/-! ### The items of a DUMP READ -/

/-- A record of a bank that did not fail its test is read as it was written (R118). -/
theorem storedBytes_vouched {i n : Nat} {r : JournalRecord}
    (h : cellsRead (s.journal.cellOf n) s.journal.cells = some r ∧
      s.journal.bankResult (bankOfCell (s.journal.cellOf n)) ≠ .fail) : storedBytes s i n = r.bytes := by
  obtain ⟨hread, hbank⟩ := h
  simp only [storedBytes, hread, if_neg hbank]

/-- The bytes of item n where the records still held are those given: the record, or the LAPPED marker (R130). -/
def vouchedItem (s : State) (rec : Nat → JournalRecord) (n : Nat) : Bytes :=
  if s.journal.oldest ≤ n then (rec n).bytes else (marker .lapped n s.run.clock).bytes

theorem dumpItem_vouched {i n : Nat} {rec : Nat → JournalRecord}
    (h : s.journal.oldest ≤ n → cellsRead (s.journal.cellOf n) s.journal.cells = some (rec n) ∧
      s.journal.bankResult (bankOfCell (s.journal.cellOf n)) ≠ .fail) : dumpItem s i n = vouchedItem s rec n := by
  unfold dumpItem vouchedItem
  split
  · next hheld => exact storedBytes_vouched (h hheld)
  · rfl

/-- How many numbers a DUMP READ gives: up to 8, as many as its range still has (R130). -/
def Snapshot.dumpCount (x : Snapshot) : Nat :=
  match x.stop with
  | none => 0
  | some e => min 8 (e + 1 - x.pointer)

theorem dumpNumbers_eq (x : Snapshot) : dumpNumbers x = (List.range x.dumpCount).map (x.pointer + ·) := by
  cases h : x.stop with
  | none => simp only [dumpNumbers, Snapshot.dumpCount, h, List.range_zero, List.map_nil]
  | some e => simp only [dumpNumbers, Snapshot.dumpCount, h]

theorem dumpNumbers_length (x : Snapshot) : (dumpNumbers x).length = x.dumpCount := by
  rw [dumpNumbers_eq, List.length_map, List.length_range]

/-- The items of a DUMP READ are those of its numbers, in order. -/
theorem dumpItems_eq {item : Nat → Bytes} (h : ∀ n ∈ dumpNumbers x, ∀ i, dumpItem s i n = item n) :
    ((List.range (dumpNumbers x).length).map fun i => dumpItem s i (x.pointer + i)) = (dumpNumbers x).map item := by
  have hmem : ∀ i ∈ List.range x.dumpCount, x.pointer + i ∈ dumpNumbers x := fun i hi => by
    rw [dumpNumbers_eq]
    exact List.mem_map_of_mem hi
  rw [dumpNumbers_length]
  conv_rhs => rw [dumpNumbers_eq, List.map_map]
  exact List.map_congr_left fun i hi => h _ (hmem i hi) i

/-! ### DUMP READ -/

/-- The LAPPED count of a snapshot after a DUMP READ (R131). -/
def lappedAfter (j : Journal) (x : Snapshot) : Nat := x.lapped + ((dumpNumbers x).filter fun n => decide (n < j.oldest)).length

theorem dumpRead_empty (h : s.journal.snapshot = none) :
    dumpRead s = s.accept (1 :: (marker .empty s.journal.next s.run.clock).bytes) := by
  simp only [dumpRead, h]
  rfl

section
variable {item : Nat → Bytes} (hx : s.journal.snapshot = some x) (h : ∀ n ∈ dumpNumbers x, ∀ i, dumpItem s i n = item n)

include hx h

theorem dumpRead_more (hc : x.dumpCount = 8) :
    dumpRead s =
      ((s.setFree (s.freeCount + 1)).setJournal
        { s.journal with snapshot := some { x with pointer := x.pointer + 8, lapped := lappedAfter s.journal x } },
       .accepted (8 :: ((dumpNumbers x).map item).flatten)) := by
  simp only [dumpRead, hx, dumpItems_eq h]
  rw [if_pos ((dumpNumbers_length x).trans hc), dumpReply, List.length_map, dumpNumbers_length, hc]
  rfl

theorem dumpRead_last (hc : x.dumpCount < 8) :
    dumpRead s =
      ((s.setFree (s.freeCount + 1)).setJournal { s.journal with snapshot := none },
       .accepted (le 1 (x.dumpCount + 1) ++ ((dumpNumbers x).map item).flatten ++ dumpEnd s x (lappedAfter s.journal x))) := by
  simp only [dumpRead, hx, dumpItems_eq h]
  rw [if_neg (by rw [dumpNumbers_length]; omega), dumpReply, List.length_append, List.length_map, dumpNumbers_length,
    List.flatten_append, List.flatten_singleton, ← List.append_assoc]
  rfl

end

end

end Sys2Proof.Machine

open Sys2Proof Sys2Proof.Machine

/-- Settles O50: a DUMP READ by what its snapshot still has to give, its items read as the records written; JOURNAL STATUS by its
fields. -/
theorem dumpAndStatus : Obligations.DumpAndStatus := by
  intro s tag ht j
  refine ⟨fun hnone => ?_, fun x rec hx => ?_, ?_⟩
  · exact exec_answered .dumpRead dumpRead rfl ht rfl rfl rfl (dumpRead_empty hnone)
  · intro count numbers hrec item lapped last
    have hnumbers : dumpNumbers x = numbers := dumpNumbers_eq x
    have hitem : ∀ n ∈ dumpNumbers x, ∀ i, dumpItem s.owe i n = item n := fun n hn i =>
      dumpItem_vouched (s := s.owe) (hrec n (hnumbers ▸ hn))
    have hlapped : lappedAfter j x = lapped := by rw [lappedAfter, hnumbers]
    have hlast : dumpEnd s.owe x (lappedAfter j x) = last.bytes := by
      rw [hlapped]
      rfl
    rw [← hlapped, ← hnumbers, ← hlast]
    refine ⟨fun hc => ?_, fun hc => ?_⟩
    · exact exec_answered_changed .dumpRead dumpRead rfl ht rfl rfl rfl (dumpRead_more (s := s.owe) hx hitem hc) rfl
    · exact exec_answered_changed .dumpRead dumpRead rfl ht rfl rfl rfl (dumpRead_last (s := s.owe) hx hitem hc) rfl
  · exact exec_answered_changed .journalStatus journalStatus rfl ht rfl rfl rfl
      (t := { s with freeCount := s.freeCount + 1 }) rfl rfl

end

section
/-! BANK_TEST, and the STORE WRITE FAIL of power-on that waits for the last bank (R117, R153, R154, R164). -/

namespace Sys2Proof.Machine

open Sys2Proof

/-! ### The bank to be tested next -/

section
variable {j : Journal}

theorem Journal.nextBank_none (h : ∀ b : Fin 8, j.results[b] ≠ .untested) : j.nextBank = none :=
  List.find?_eq_none.mpr fun b _ => by simpa using h b

theorem Journal.nextBank_lowest {b : Fin 8} (hb : j.results[b] = .untested)
    (hlow : ∀ a : Fin 8, a < b → j.results[a] ≠ .untested) : j.nextBank = some b := by
  rw [Journal.nextBank, ← Fin.find?_eq_find?_finRange, Fin.find?_eq_some_iff]
  exact ⟨by simpa using hb, fun a ha => by simpa using hlow a ha⟩

theorem Journal.append_results (j : Journal) (clock : Nat) (r : JournalRecord) : (j.append clock r).results = j.results := by
  rw [Journal.append_frame]

end

/-- A raise leaves the STORE WRITE FAIL that waits (R164). -/
theorem FaultCapture.judged_waits (f : FaultCapture) (c : FaultCode) (r : FaultRecord) :
    (f.judged c r).writeFailWaits = f.writeFailWaits := by
  unfold FaultCapture.judged
  split
  · rfl
  · cases (f.rule c).cls <;> rfl

/-! ### The bank given its result -/

section
variable {s : State} {b : Fin 8} {pass : Bool}

/-- The journal with a bank's result put in (R117). -/
def State.bankGiven (s : State) (b : Fin 8) (r : BankResult) : State :=
  { s with journal := { s.journal with results := s.journal.results.set b r } }

/-- The bank given its result, a failed one with its fault (R117). -/
def State.bankTested (s : State) (b : Fin 8) (pass : Bool) : State :=
  if pass then s.bankGiven b .pass else (s.bankGiven b .fail).faulted .journalBankFail .journal []

theorem State.bankTested_waits (s : State) (b : Fin 8) (pass : Bool) :
    (s.bankTested b pass).faults.writeFailWaits = s.faults.writeFailWaits := by
  cases pass with
  | true => rfl
  | false => exact FaultCapture.judged_waits _ _ _

theorem State.bankTested_results (s : State) (b : Fin 8) (pass : Bool) :
    (s.bankTested b pass).journal.results = s.journal.results.set b (if pass then .pass else .fail) := by
  cases pass with
  | true => rfl
  | false =>
    show (if (s.bankGiven b .fail).faultDrops .journalBankFail then _ else _ : Journal).results = _
    split
    · rw [Journal.append_results]
      rfl
    · rfl

/-- After the test of a bank the others alone can be UNTESTED. -/
theorem State.bankTested_testing :
    (∃ a : Fin 8, (s.bankTested b pass).journal.results[a] = .untested) ↔
      ∃ a : Fin 8, a ≠ b ∧ s.journal.results[a] = .untested := by
  have hresult : (if pass then BankResult.pass else .fail) ≠ .untested := by cases pass <;> decide
  refine exists_congr fun a => ?_
  rw [State.bankTested_results]
  by_cases h : a = b
  · subst h
    simpa using hresult
  · have hval : b.val ≠ a.val := fun hv => h (Fin.ext hv.symm)
    simp [h, Vector.getElem_set_ne _ _ hval]

/-! ### BANK_TEST -/

/-- A bank test with no bank UNTESTED changes nothing (log 3). -/
theorem exec_bankTest_done (h : ∀ a : Fin 8, s.journal.results[a] ≠ .untested) : exec (.bankTest pass) s = .next s := by
  show Host.Outcome.next (if !s.powered then s else _) = _
  rw [Journal.nextBank_none h, ite_self]

theorem exec_bankTest_next (hp : s.powered = true) (hb : s.journal.nextBank = some b)
    (hadm : pass = false → s.admits .journalBankFail) :
    exec (.bankTest pass) s = .next (s.bankTested b pass).startUpEnds := by
  show Host.Outcome.next (if !s.powered then _ else _) = _
  rw [if_neg (by simp [hp]), hb]
  cases pass with
  | true => rfl
  | false =>
    have hraise : (s.bankGiven b .fail).raise .journalBankFail .journal [] = s.bankTested b false :=
      State.raise_faulted .journal [] (hadm rfl)
    rw [← hraise]
    rfl

/-- The test ends, with a STORE WRITE FAIL of power-on waiting, where no other bank is left (R164). -/
theorem State.startUpEnds_bankTested
    (h : ¬(s.faults.writeFailWaits = true ∧ ∀ a : Fin 8, a ≠ b → s.journal.results[a] ≠ .untested)) :
    (s.bankTested b pass).startUpEnds = s.bankTested b pass := by
  obtain ⟨hw, hall, -⟩ | ⟨-, hsame⟩ := (s.bankTested b pass).startUpEnds_cases
  · refine absurd ⟨(s.bankTested_waits b pass).symm.trans hw, fun a ha hu => ?_⟩ h
    obtain ⟨c, hc⟩ := State.bankTested_testing.mpr ⟨a, ha, hu⟩
    exact hall c hc
  · exact hsame

theorem State.startUpEnds_bankTested_last (hw : s.faults.writeFailWaits = true)
    (hall : ∀ a : Fin 8, a ≠ b → s.journal.results[a] ≠ .untested) (hadm : (s.bankTested b pass).admits .storeWriteFail) :
    (s.bankTested b pass).startUpEnds =
      ((s.bankTested b pass).setFaults { (s.bankTested b pass).faults with writeFailWaits := false }).faulted .storeWriteFail
        .store [] := by
  obtain ⟨-, -, hraise⟩ | ⟨hleft, -⟩ := (s.bankTested b pass).startUpEnds_cases
  · exact hraise.trans (State.raise_faulted _ _ hadm)
  · obtain ⟨a, ha, hu⟩ := State.bankTested_testing.mp (hleft ((s.bankTested_waits b pass).trans hw))
    exact absurd hu (hall a ha)

end

end Sys2Proof.Machine

open Sys2Proof Sys2Proof.Machine

/-- Settles O51: the lowest UNTESTED bank is given its result, and what the end of the test then lets through. -/
theorem bankTested : Obligations.BankTested := by
  intro s pass hp
  refine ⟨exec_bankTest_done, fun b hb hlow => ?_⟩
  intro last tested done hadm
  have hexec : exec (.bankTest pass) s = .next (s.bankTested b pass).startUpEnds :=
    exec_bankTest_next hp (Journal.nextBank_lowest hb hlow) hadm
  refine ⟨fun hlast => ?_, fun hlast hstore => ?_⟩
  · rw [hexec, State.startUpEnds_bankTested hlast]
    rfl
  · rw [hexec, State.startUpEnds_bankTested_last hlast.1 hlast.2 hstore]
    rfl

end

section
/-! The law of R134 and the capacities of the lists: what the work of an event keeps, told of the operations that commands and events
share. Raising, offering and serving the store carry the content; an operation on another block closes by the hypothesis itself. -/

namespace Sys2Proof.Machine

open Sys2Proof

/-- The lists are within their capacities, and `k` replies are owed besides those of the setting writes listed: none between events, one
while a command that is taken is at work (R144, R171 to R173). -/
def State.OwesBeside (s : State) (k : Nat) : Prop :=
  s.store.waiting.length ≤ 8 ∧ s.line.places ≤ 64 ∧ s.line.owed = s.store.owing + k

theorem State.listsFormed_iff (s : State) : s.ListsFormed ↔ s.OwesBeside 0 := Iff.rfl

/-- What leads from `s` to `t` keeps the law of R134 and the lists, whatever replies are owed besides. -/
def Works (s t : State) : Prop := (s.HaltedEmpty → t.HaltedEmpty) ∧ ∀ k, s.OwesBeside k → t.OwesBeside k

variable {s t u : State}

theorem Works.refl (s : State) : Works s s := ⟨id, fun _ => id⟩

theorem Works.trans (h : Works s t) (h' : Works t u) : Works s u := ⟨h'.1 ∘ h.1, fun k => h'.2 k ∘ h.2 k⟩

/-- The run state, the server line and the store stay, and no check or tender comes in. -/
theorem Works.of_shrunk (h : Works s u) (hrun : t.run.state = u.run.state) (hchecks : u.checks = [] → t.checks = [])
    (hpool : u.tenders.pool = [] → t.tenders.pool = []) (hline : t.line = u.line) (hstore : t.store = u.store) : Works s t := by
  refine h.trans ⟨fun he hh => ?_, fun k hk => ?_⟩
  · obtain ⟨hc, hp⟩ := he (hrun ▸ hh)
    exact ⟨hchecks hc, hpool hp⟩
  · rwa [State.OwesBeside, hline, hstore]

/-- The law of R134 asks nothing outside HALTED. -/
theorem Works.of_running (h : Works s u) (hrun : t.run.state ≠ .halted) (hline : t.line = u.line) (hstore : t.store = u.store) :
    Works s t := by
  refine h.trans ⟨fun _ hh => absurd hh hrun, fun k hk => ?_⟩
  rwa [State.OwesBeside, hline, hstore]

/-- What every turn of a loop keeps, the loop keeps. -/
theorem foldl_works {α : Type} (f : State → α → State) (l : List α) (hf : ∀ (v : State) (a : α), Works s v → Works s (f v a))
    (h : Works s u) : Works s (l.foldl f u) := by
  induction l generalizing u with
  | nil => exact h
  | cons a l ih => exact ih (hf u a h)

/-! ### Frames queued, faults raised and notices offered -/

theorem ServerLine.places_enqueued (l : ServerLine) (f : Frame) :
    ({ l with queue := l.queue ++ [f] } : ServerLine).places = l.places + 1 := by
  simp only [ServerLine.places, List.length_append, List.length_singleton]
  omega

theorem State.enqueue_works {f : Frame} (h : Works s u) (hp : u.line.places < 64) : Works s (u.enqueue f) := by
  refine h.trans ⟨id, fun k ⟨hw, _, ho⟩ => ⟨hw, ?_, ho⟩⟩
  rw [State.enqueue_line, ServerLine.places_enqueued]
  exact hp

theorem State.appendRecord_works {r : JournalRecord} (h : Works s u) : Works s (u.appendRecord r) := h

theorem State.placeOutcome_works {i : Slot} {o : OutcomeItem} (h : Works s u) : Works s (u.placeOutcome i o) := h

theorem State.changeRun_works {new : RunState} {cause : RunCause} (h : Works s u) (hnew : new ≠ .halted) :
    Works s (u.changeRun new cause) := h.of_running hnew rfl rfl

theorem State.severeReport_works {cls : FaultClass} (h : Works s u) : Works s (u.severeReport cls) := by
  unfold State.severeReport
  split
  · exact State.changeRun_works h (by decide)
  · exact h

theorem raiseWithin_works {n : Nat} {code : FaultCode} {source : FaultSource} {bytes : Bytes} (h : Works s u) :
    Works s (raiseWithin n code source bytes u) := by
  induction n generalizing code source bytes u with
  | zero => exact h
  | succ n ih =>
    rw [raiseWithin]
    dsimp only
    split
    · exact h
    · split
      · exact State.severeReport_works (u := u.setFaults _) h
      · apply State.severeReport_works
        split
        · split
          · next hp => exact State.enqueue_works (u := u.setFaults _) h (Nat.lt_of_lt_of_le hp (by decide))
          · exact ih (u := u.setFaults _) h
        · exact h

theorem State.raise_works {code : FaultCode} {source : FaultSource} {bytes : Bytes} (h : Works s u) :
    Works s (u.raise code source bytes) := raiseWithin_works h

theorem State.offer_works {f : Frame} (h : Works s u) : Works s (u.offer f) := by
  unfold State.offer
  split
  · next hp => exact State.enqueue_works h (Nat.lt_of_lt_of_le hp (by decide))
  · exact State.raise_works h

/-! ### Replies -/

/-- What a reply queued into its place leaves: as many places, one reply owed less (R171). -/
theorem State.queueReply_places {before : Nat} {f : Frame} (ho : 0 < u.line.owed) :
    (u.queueReply before f).line.places = u.line.places ∧ (u.queueReply before f).line.owed = u.line.owed - 1 := by
  unfold State.queueReply
  dsimp only
  split
  · refine ⟨?_, rfl⟩
    simp only [State.setLine_line, ServerLine.places, List.length_append, List.length_singleton]
    omega
  · refine ⟨?_, rfl⟩
    simp only [State.setFree_line, State.setLine_line, ServerLine.places, List.length_append, List.length_cons, List.length_take,
      List.length_drop]
    omega

theorem State.queueReply_haltedEmpty {before : Nat} {f : Frame} (h : u.HaltedEmpty) : (u.queueReply before f).HaltedEmpty := by
  unfold State.queueReply
  dsimp only
  split <;> exact h

theorem State.queueReply_owesBeside {k before : Nat} {f : Frame} (h : u.OwesBeside (k + 1)) :
    (u.queueReply before f).OwesBeside k := by
  obtain ⟨hw, hp, ho⟩ := h
  obtain ⟨hplaces, howed⟩ := State.queueReply_places (u := u) (before := before) (f := f) (by omega)
  refine ⟨?_, ?_, ?_⟩
  · rwa [State.queueReply_store]
  · rwa [hplaces]
  · rw [howed, State.queueReply_store]
    omega

/-- A command that is taken holds a place (R171). -/
theorem State.owe_owesBeside {k : Nat} (h : s.OwesBeside k) (hp : s.line.places < 64) : s.owe.OwesBeside (k + 1) := by
  obtain ⟨hw, -, ho⟩ := h
  refine ⟨hw, ?_, congrArg (· + 1) ho⟩
  simp only [State.owe_line, ServerLine.places] at hp ⊢
  omega

/-- A command taken where a place is free is answered into that place (R169, R171). -/
theorem State.queueReply_works {before : Nat} {f : Frame} (hp : s.line.places < 64) (h : Works s.owe u) :
    Works s (u.queueReply before f) :=
  ⟨fun he => State.queueReply_haltedEmpty (h.1 he), fun _ hk => State.queueReply_owesBeside (h.2 _ (State.owe_owesBeside hk hp))⟩

theorem State.answer_works {kind tag : U8} {d : State → State × Reply} (hp : s.line.places < 64) (h : Works s.owe (d s.owe).1) :
    Works s (s.answer kind tag d) := State.queueReply_works hp h

/-! ### The store write list -/

theorem SettingStore.owesReply_eq (st : SettingStore) : st.owesReply = (st.current.map fun w => w.request.isTagged).getD false := by
  unfold SettingStore.owesReply
  cases st.current with
  | none => rfl
  | some w => cases h : w.request <;> simp [h, StoreRequest.isTagged]

/-- How many replies a list and a write in progress owe (R173). -/
theorem SettingStore.owing_eq (st : SettingStore) : st.owing =
    (st.waiting.filter StoreRequest.isTagged).length + if (st.current.map fun w => w.request.isTagged).getD false then 1 else 0 := by
  rw [SettingStore.owing, SettingStore.owesReply_eq]

theorem State.beginWrite_works (h : Works s u) : Works s u.beginWrite := by
  refine h.trans ?_
  unfold State.beginWrite
  split
  · next r rest hc hw =>
    refine ⟨id, fun k ⟨hlen, hp, ho⟩ => ⟨?_, hp, ho.trans ?_⟩⟩
    · simp only [hw, List.length_cons] at hlen
      exact Nat.le_of_succ_le hlen
    · simp only [State.setFree_store, State.setStore_store, SettingStore.owing_eq, hc, hw, List.filter_cons, Option.map_none,
        Option.map_some, Option.getD_none, Option.getD_some]
      split <;> simp
  · exact Works.refl u

theorem State.setStore_placed_owing (v : State) (r : StoreRequest) :
    ({ v.store with waiting := v.store.waiting ++ [r] } : SettingStore).owing = v.store.owing + if r.isTagged then 1 else 0 := by
  have hone : ([r].filter StoreRequest.isTagged).length = if r.isTagged then 1 else 0 := by cases h : r.isTagged <;> simp [h]
  simp only [SettingStore.owing_eq, List.filter_append, List.length_append, hone]
  omega

theorem State.handFree_works (h : Works s u) : Works s u.handFree := by
  refine h.trans ?_
  unfold State.handFree
  split
  · split
    · next hroom =>
      refine ⟨id, fun k ⟨_, hp, ho⟩ => ⟨?_, hp, ho.trans ?_⟩⟩
      · rw [State.setStore_store, List.length_append]
        exact hroom.2
      · rw [State.setStore_store, State.setStore_placed_owing]
        rfl
    · exact Works.refl u
  · exact Works.refl u

theorem State.pumpStore_works (h : Works s u) : Works s u.pumpStore :=
  State.beginWrite_works (State.handFree_works (State.beginWrite_works h))

/-- A request that owes no reply, placed where the list has room (R144). -/
theorem State.placeRequest_works {r : StoreRequest} (h : Works s u) (hr : r.isTagged = false) (hroom : u.store.waiting.length < 8) :
    Works s (u.placeRequest r) := by
  refine State.pumpStore_works (h.trans ⟨id, fun k ⟨_, hp, ho⟩ => ⟨?_, hp, ho.trans ?_⟩⟩)
  · simpa using hroom
  · rw [State.setStore_store, State.setStore_placed_owing, hr]
    rfl

theorem settingWriteRefusal_room {setting value : Nat} (h : settingWriteRefusal s setting value = none) :
    s.store.waiting.length < 8 := by
  unfold settingWriteRefusal at h
  split at h
  · cases h
  · split at h
    · cases h
    · split at h
      · cases h
      · next hroom => exact Nat.lt_of_not_le hroom

/-- A setting write of a command keeps its place owed until it ends (R147, R173). -/
theorem settingWriteCommand_works {tag setting : U8} {value : U32} (hp : s.line.places < 64) :
    Works s (settingWriteCommand tag setting value s) := by
  unfold settingWriteCommand
  split
  · exact State.queueReply_works hp (Works.refl _)
  · next hnone =>
    refine State.pumpStore_works ⟨id, fun k hk => ?_⟩
    obtain ⟨-, hplaces, ho⟩ := State.owe_owesBeside hk hp
    refine ⟨?_, hplaces, ho.trans ?_⟩
    · simpa using settingWriteRefusal_room hnone
    · rw [State.setStore_store, State.setStore_placed_owing]
      show _ = _ + 1 + k
      rw [State.owe_store]
      omega

end Sys2Proof.Machine
end

section
/-! What the operations of the Check Table, of Uplink Control and of the Tender Pool keep of the law of R134 and of the lists. A branch
that reaches none of the blocks the laws name is closed by the hypothesis itself. -/

namespace Sys2Proof.Machine

open Sys2Proof

variable {s u : State}

/-! ### The Check Table -/

theorem State.putCheck_works {c : Check} (h : Works s u) : Works s (u.putCheck c) :=
  h.of_shrunk rfl (fun hc => by rw [State.putCheck_checks, hc]; rfl) id rfl rfl

theorem State.settleCheck_works {n : Nat} (h : Works s u) : Works s (u.settleCheck n) := by
  unfold State.settleCheck
  split
  · exact h
  · dsimp only
    split
    · exact State.offer_works (State.putCheck_works h)
    · exact State.putCheck_works h

theorem State.releaseHold_works {check share r : Nat} (h : Works s u) : Works s (u.releaseHold check share r) := by
  unfold State.releaseHold
  split
  · exact State.putCheck_works h
  · exact h

theorem State.commitChange_works {c : Check} {ch : Change} {b : Bool} (h : Works s u) : Works s (u.commitChange c ch b) :=
  State.putCheck_works h

theorem takeChange_works {n : Nat} {tag : U8} {ch : Change} (h : Works s u) : Works s (takeChange n tag ch u).1 := by
  unfold takeChange
  split
  · exact h
  · split
    · exact h
    · split
      · exact h
      · split
        · exact State.settleCheck_works (State.commitChange_works h)
        · exact State.settleCheck_works (State.putCheck_works h)

theorem State.applyParked_works {c : Check} {p : Parked} (h : Works s u) : Works s (u.applyParked c p) := by
  unfold State.applyParked
  dsimp only
  split
  · exact State.offer_works (State.putCheck_works h)
  · exact State.offer_works (State.commitChange_works h)

theorem State.departure_works {n : Nat} (h : Works s u) : Works s (u.departure n) := by
  unfold State.departure
  split
  · exact h
  · dsimp only
    split
    · exact State.putCheck_works h
    · split
      · exact State.settleCheck_works (State.applyParked_works (State.putCheck_works h))
      · exact State.settleCheck_works (State.putCheck_works h)

theorem State.freeCheck_works {n : Nat} (h : Works s u) : Works s (u.freeCheck n) :=
  h.of_shrunk rfl (fun hc => by unfold State.freeCheck; simp [hc]) id rfl rfl

/-! ### Uplink Control -/

theorem State.countExpiry_works (h : Works s u) : Works s u.countExpiry := by
  unfold State.countExpiry
  dsimp only
  split
  · exact State.raise_works (u := State.changeUplink _ _ _ _) h
  · exact h

theorem forwardWithin_works {n : Nat} (h : Works s u) : Works s (forwardWithin n u) := by
  induction n generalizing u with
  | zero => exact h
  | succ n ih =>
    rw [forwardWithin]
    split
    · split
      · exact ih (u := State.setUplink _ _) (State.offer_works h)
      · exact h
    · exact h

theorem State.forwardEntries_works (h : Works s u) : Works s u.forwardEntries := forwardWithin_works h

/-- An append is placed where the list has room, the last of the tests of R79. -/
theorem State.approveOffline_works {t : Tender} (h : Works s u) (hroom : u.store.waiting.length < 8) : Works s (u.approveOffline t) :=
  State.placeRequest_works (u := u.setUplink _) h rfl hroom

/-! ### Tenders put back, leaving, posting and ending -/

theorem State.putTender_works {t : Tender} (h : Works s u) : Works s (u.putTender t) :=
  h.of_shrunk rfl id (fun hp => by rw [State.putTender_tenders, hp]; rfl) rfl rfl

theorem State.leavePool_works {t : Tender} {reason : EndReason} (h : Works s u) : Works s (u.leavePool t reason) :=
  State.departure_works (u := State.putSlot _ _ _) (h.of_shrunk rfl id (fun hp => by simp [hp]) rfl rfl)

theorem State.postToCheck_works {t : Tender} (h : Works s u) : Works s (u.postToCheck t) := by
  unfold State.postToCheck
  split
  · exact h
  · next c _ =>
    have hposted : ∀ {f : Frame}, Works s (((u.putCheck (c.post t.share t.ps t.pt)).appendRecord
        (postedRecord t c.nextReceipt)).offer f) := State.offer_works (State.appendRecord_works (State.putCheck_works h))
    dsimp only
    split
    · exact State.offer_works hposted
    · exact hposted

theorem State.postTender_works {t : Tender} (h : Works s u) : Works s (u.postTender t) :=
  State.leavePool_works (u := State.putSlot _ _ _) (State.postToCheck_works h)

theorem postWithin_works {n check : Nat} (h : Works s u) : Works s (postWithin n check u) := by
  induction n generalizing u with
  | zero => exact h
  | succ n ih =>
    rw [postWithin]
    split
    · split
      · exact ih (State.postTender_works h)
      · exact h
    · exact h

theorem State.postReady_works {check : Nat} (h : Works s u) : Works s (u.postReady check) := postWithin_works h

/-- A tender ends within the laws where the records and messages of its rule keep them (R63). -/
theorem State.endTender_works {t : Tender} {reason : EndReason} {messages : State → State} (h : Works s u)
    (hm : ∀ v : State, Works s v → Works s (messages v)) : Works s (u.endTender t reason messages) := by
  unfold State.endTender
  dsimp only
  split
  · exact State.postReady_works (State.leavePool_works (hm _ (State.releaseHold_works h)))
  · exact State.leavePool_works (hm _ (State.releaseHold_works h))

theorem State.decline_works {t : Tender} {reason : U8} {host : Bool} (h : Works s u) : Works s (u.decline t reason host) :=
  State.endTender_works h fun _ hv => State.placeOutcome_works (State.appendRecord_works hv)

/-! ### Intake -/

/-- Intake finds a check in use, and only while SERVING (R49). -/
theorem intake_found {i : Slot} {share : Nat} {c : Check} {x : Share} (h : intake u i share = .ok (c, x)) :
    u.run.state ≠ .halted ∧ u.check c.number = some c := by
  constructor
  · intro hh
    rw [intake, if_pos (by rw [hh]; decide)] at h
    cases h
  · obtain ⟨hfails, hpasses⟩ := intake_spec u i share
    cases hr : intakeRefusal u i share with
    | some r =>
      rw [hfails r hr] at h
      cases h
    | none =>
      obtain ⟨n, c', x', -, hc, -, -, -, hok⟩ := hpasses hr
      rw [hok] at h
      cases h
      rwa [findCheck_number hc]

theorem offlineRefusal_room {t : Tender} (h : offlineRefusal u t = none) : u.store.waiting.length < 8 := by
  unfold offlineRefusal at h
  split at h
  · cases h
  · split at h
    · cases h
    · split at h
      · cases h
      · split at h
        · cases h
        · split at h
          · cases h
          · next hroom => exact Nat.lt_of_not_le hroom

section
variable {t : Tender} {c : Check}

/-- Outside HALTED a tender may come in. -/
theorem State.enterPool_works (h : Works s u) (hrun : u.run.state ≠ .halted) (hc : u.check t.check = some c) :
    Works s (u.enterPool t c) := by
  rw [enterPool_eq hc]
  exact h.of_running hrun rfl rfl

theorem State.issueOnline_works (h : Works s u) (hrun : u.run.state ≠ .halted) (hc : u.check t.check = some c) :
    Works s (u.issueOnline t c) :=
  State.offer_works (State.enterPool_works (t := { t with expiry := u.run.clock + u.store.settings.authWait }) h hrun hc)

theorem State.issueOffline_works (h : Works s u) (hrun : u.run.state ≠ .halted) (hc : u.check t.check = some c) :
    Works s (u.issueOffline t c) := by
  unfold State.issueOffline
  split
  · exact State.decline_works (State.enterPool_works h hrun hc)
  · next hnone =>
    have henter := State.enterPool_works (t := { t with state := .storing, forward := u.uplink.nextForward }) h hrun hc
    refine State.approveOffline_works henter ?_
    rw [enterPool_eq (by exact hc)]
    exact offlineRefusal_room hnone

end

theorem State.takePresent_works {i : Slot} {p : Presentment} (h : Works s u) : Works s (u.takePresent i p) := by
  unfold State.takePresent
  split
  · exact h
  · next c x hok =>
    obtain ⟨hrun, hc⟩ := intake_found hok
    dsimp only
    split
    · exact State.issueOnline_works h hrun hc
    · exact State.issueOffline_works h hrun hc

/-! ### Cancels, results and expiry -/

theorem State.takeCancel_works {i : Slot} {tag : U8} (h : Works s u) : Works s (u.takeCancel i tag) := by
  unfold State.takeCancel
  split
  · exact h
  · split
    · exact h
    · split
      · exact State.putTender_works h
      · exact h

theorem State.overApproval_works {t : Tender} {approved : Nat} {bytes : Bytes} (h : Works s u) :
    Works s (u.overApproval t approved bytes) := by
  unfold State.overApproval
  split
  · exact State.raise_works h
  · exact h

theorem State.takeApproval_works {t : Tender} {approved : Nat} {code bytes : Bytes} (h : Works s u) :
    Works s (u.takeApproval t approved code bytes) :=
  State.postReady_works (State.placeOutcome_works
    (State.releaseHold_works (State.putTender_works (State.overApproval_works h))))

theorem State.takeCancelled_works {t : Tender} {approved : Nat} {code bytes : Bytes} (h : Works s u) :
    Works s (u.takeCancelled t approved code bytes) := by
  unfold State.takeCancelled
  refine State.endTender_works h fun v hv => State.placeOutcome_works (State.appendRecord_works ?_)
  split
  · exact State.offer_works (State.appendRecord_works (State.overApproval_works hv))
  · exact hv

theorem State.takeResult_works {t : Tender} {approved : Nat} {code bytes : Bytes} {reason : U8} (h : Works s u) :
    Works s (u.takeResult t approved code bytes reason) := by
  unfold State.takeResult
  split
  · exact State.takeCancelled_works h
  · split
    · exact State.takeApproval_works h
    · exact State.decline_works h

theorem State.expireTender_works {t : Tender} (h : Works s u) : Works s (u.expireTender t) :=
  State.endTender_works h fun _ hv => State.countExpiry_works (State.raise_works (State.placeOutcome_works
    (State.offer_works (State.appendRecord_works hv))))

theorem State.storedTender_works {t : Tender} (h : Works s u) : Works s (u.storedTender t) :=
  State.postReady_works (State.placeOutcome_works (State.putTender_works h))

end Sys2Proof.Machine
end

section
/-! What the owners of the host commands keep of the law of R134 and of the lists, told of the state with the reply of the command owed
(R169, R171). -/

namespace Sys2Proof.Machine

open Sys2Proof

variable {s u : State}

/-! ### The Check Table -/

/-- A check is opened outside HALTED (R10). -/
theorem openCheck_works {check table : U16} {covers mode : U8} {plan : Option PlanBytes} (h : Works s u) :
    Works s (openCheck check table covers mode plan u).1 := by
  unfold openCheck
  split
  · exact h
  · next hrun =>
    split
    · exact h
    · split
      · split
        · exact h
        · split
          · exact h
          · split
            · exact h
            · have hopened : ∀ checks, Works s (u.setChecks checks) :=
                fun _ => h.of_running (fun hh => hrun (beq_iff_eq.mpr hh)) rfl rfl
              exact State.settleCheck_works (hopened _)
      · exact h

theorem addItem_works {tag : U8} {check : U16} {price : U32} {quantity taxClass : U8} {seats : U32} (h : Works s u) :
    Works s (addItem tag check price quantity taxClass seats u).1 := by
  unfold addItem
  split
  · exact h
  · split
    · exact h
    · exact takeChange_works h

theorem voidItem_works {tag : U8} {check : U16} {line : U8} (h : Works s u) : Works s (voidItem tag check line u).1 := by
  unfold voidItem
  split
  · exact h
  · split
    · exact h
    · exact takeChange_works h

theorem setSplit_works {tag : U8} {check : U16} {plan : PlanBytes} (h : Works s u) : Works s (setSplit tag check plan u).1 := by
  unfold setSplit
  split
  · exact h
  · split
    · exact h
    · split
      · exact h
      · exact takeChange_works h

theorem setCovers_works {tag : U8} {check : U16} {covers : U8} (h : Works s u) : Works s (setCovers tag check covers u).1 := by
  unfold setCovers
  split
  · exact h
  · split
    · exact h
    · exact takeChange_works h

theorem closeCheck_works {check : U16} (h : Works s u) : Works s (closeCheck check u).1 := by
  unfold closeCheck
  split
  · exact h
  · split
    · exact h
    · split
      · exact h
      · split
        · exact h
        · split
          · exact State.freeCheck_works h
          · exact h

theorem voidCheck_works {check : U16} (h : Works s u) : Works s (voidCheck check u).1 := by
  unfold voidCheck
  split
  · exact h
  · split
    · exact h
    · split
      · exact h
      · split
        · exact h
        · split
          · exact h
          · exact State.freeCheck_works h

/-! ### The Tender Pool and Uplink Control -/

theorem authResult_works {bytes : Bytes} {tender : U16} {outcome : U8} {approved : U32} {code : Bytes} {reason : U8} (h : Works s u) :
    Works s (authResult bytes tender outcome approved code reason u).1 := by
  unfold authResult
  split
  · exact h
  · split
    · exact h
    · split
      · split
        · exact State.takeResult_works (u := u.countAnswer) h
        · exact State.raise_works h
      · split <;> exact State.raise_works h

theorem uplinkState_works {state : U8} (h : Works s u) : Works s (uplinkState state u).1 := by
  unfold uplinkState
  split
  · dsimp only
    split
    · exact State.forwardEntries_works (u := State.changeUplink _ _ _ _) h
    · exact h
  · split
    · dsimp only
      split <;> exact h
    · exact h

theorem forwardResult_works {bytes : Bytes} {number : U32} {outcome reason : U8} (h : Works s u) :
    Works s (forwardResult bytes number outcome reason u).1 := by
  unfold forwardResult
  split
  · exact h
  · split
    · exact State.raise_works h
    · have hfreed : ∀ x, Works s (u.setUplink x).pumpStore := fun x => State.pumpStore_works (u := u.setUplink x) h
      apply State.forwardEntries_works
      split
      · exact State.appendRecord_works (hfreed _)
      · exact State.raise_works (State.offer_works (State.appendRecord_works (hfreed _)))

/-! ### Run Control -/

theorem State.endProbe_works {early : Bool} {i : Slot} (h : Works s u) : Works s (u.endProbe early i) := by
  unfold State.endProbe
  split
  · exact State.offer_works h
  · exact h

theorem leaveHalted_works {bytes : Bytes} {new : RunState} (h : Works s u) (hnew : new ≠ .halted) :
    Works s (leaveHalted bytes new u).1 := by
  unfold leaveHalted
  split
  · exact h
  · split
    · exact h
    · split
      · exact State.raise_works h
      · exact State.changeRun_works h hnew

/-- HALTED is entered with both tables empty (R137). -/
theorem enterHalted_works (h : Works s u) : Works s (enterHalted u).1 := by
  unfold enterHalted
  split
  · exact h
  · next hempty =>
    obtain ⟨hchecks, hrest⟩ := not_or.mp hempty
    obtain ⟨hpool, -⟩ := not_or.mp hrest
    have hhalted : Works s (u.changeRun .halted .setRun) := h.trans ⟨fun _ _ => ⟨not_not.mp hchecks, not_not.mp hpool⟩, fun _ => id⟩
    dsimp only
    unfold State.endProbes
    exact foldl_works _ _ (fun _ _ => State.endProbe_works) hhalted

theorem setRun_works {bytes : Bytes} {state : U8} (h : Works s u) : Works s (setRun bytes state u).1 := by
  unfold setRun
  split
  · exact h
  · split
    · exact h
    · next hsame =>
      split
      · next hhalted => exact leaveHalted_works h fun hnew => hsame (hnew.trans hhalted.symm)
      · split
        · exact enterHalted_works h
        · next hnew => exact State.changeRun_works h hnew

theorem timeSet_works {clock : U32} (h : Works s u) : Works s (timeSet clock u).1 := by
  unfold timeSet
  split
  · exact h
  · exact h.of_shrunk rfl id (fun hp => by simp [hp]) rfl rfl

theorem offerWithin_works {n : Nat} (h : Works s u) : Works s (offerWithin n u) := by
  induction n generalizing u with
  | zero => exact h
  | succ n ih =>
    rw [offerWithin]
    split
    · exact h
    · split
      · exact ih (State.offer_works (u := u.setRun _) h)
      · exact h

theorem shiftClose_works (h : Works s u) : Works s (shiftClose u).1 := by
  unfold shiftClose
  split <;> exact h

theorem shiftCloseCommand_works {tag : U8} (hp : s.line.places < 64) : Works s (shiftCloseCommand tag s) := by
  have hreplied : Works s ((shiftClose s.owe).1.queueReply s.line.queue.length ((shiftClose s.owe).2.frame 0x31 tag)) :=
    State.queueReply_works hp (shiftClose_works (Works.refl _))
  unfold shiftCloseCommand
  dsimp only
  split
  · exact offerWithin_works hreplied
  · exact hreplied

/-! ### The Journal and Fault Capture -/

theorem State.cutSnapshot_works {x : Snapshot} (h : Works s u) : Works s (u.cutSnapshot x) := by
  unfold State.cutSnapshot
  dsimp only
  split <;> exact h

theorem snap_works {kind : U8} {depth start : U32} {sync : U8} (h : Works s u) : Works s (snap kind depth start sync u).1 := by
  unfold snap
  split
  · exact h
  · split
    · repeat' split
      all_goals exact h
    · exact State.cutSnapshot_works h

theorem dumpRead_works (h : Works s u) : Works s (dumpRead u).1 := by
  unfold dumpRead
  split
  · exact h
  · dsimp only
    split <;> exact h

theorem faultClear_works {cls : U8} (h : Works s u) : Works s (faultClear cls u).1 := by
  unfold faultClear
  split <;> exact h

theorem faultMask_works {code mask cls : U8} (h : Works s u) : Works s (faultMask code mask cls u).1 := by
  unfold faultMask
  split
  · split <;> exact h
  · exact h

theorem faultInject_works {bytes : Bytes} {code : U8} (h : Works s u) : Works s (faultInject bytes code u).1 := by
  unfold faultInject
  split
  · exact h
  · split
    · exact h
    · exact State.raise_works h

/-! ### The Slot Route Map -/

theorem routeSlot_works {slot mode : U8} {check : U16} {text : Bytes} (h : Works s u) :
    Works s (routeSlot slot mode check text u).1 := by
  unfold routeSlot
  repeat' split
  all_goals exact h

theorem routeFill_works {mode : U8} {check : U16} {text : Bytes} (h : Works s u) : Works s (routeFill mode check text u).1 := by
  unfold routeFill
  repeat' split
  all_goals exact h

theorem probeSlot_works {slot : U8} {frames : U32} (h : Works s u) : Works s (probeSlot slot frames u).1 := by
  unfold probeSlot
  repeat' split
  all_goals exact h

/-! ### Every command but RESET -/

/-- A command that reads alone answers from the state it finds. -/
theorem State.answer_reads {kind tag : U8} {d : State → State × Reply} (hp : s.line.places < 64) (h : (d s.owe).1 = s.owe) :
    Works s (s.answer kind tag d) := State.answer_works hp (by rw [h]; exact Works.refl _)

/-- Every command but RESET is answered within the laws where a place is free (R169, R171). -/
theorem runHost_works {bytes : Bytes} {tag : U8} {c : HostCommand} (hp : s.line.places < 64) (hc : c ≠ .reset) :
    Works s (runHost bytes tag c s) := by
  have h : Works s.owe s.owe := Works.refl _
  cases c with
  | openCheck => exact State.answer_works hp (openCheck_works h)
  | addItem => exact State.answer_works hp (addItem_works h)
  | voidItem => exact State.answer_works hp (voidItem_works h)
  | setSplit => exact State.answer_works hp (setSplit_works h)
  | setCovers => exact State.answer_works hp (setCovers_works h)
  | checkQuery =>
    apply State.answer_reads hp
    unfold checkQuery
    repeat' split
    all_goals rfl
  | closeCheck => exact State.answer_works hp (closeCheck_works h)
  | voidCheck => exact State.answer_works hp (voidCheck_works h)
  | authResult => exact State.answer_works hp (authResult_works h)
  | tenderQuery =>
    apply State.answer_reads hp
    unfold tenderQuery
    repeat' split
    all_goals rfl
  | uplinkState => exact State.answer_works hp (uplinkState_works h)
  | forwardResult => exact State.answer_works hp (forwardResult_works h)
  | forwardRestart => exact State.answer_works hp (State.forwardEntries_works (u := State.setUplink _ _) h)
  | forwardQuery =>
    apply State.answer_reads hp
    unfold forwardQuery
    split <;> rfl
  | routeSlot => exact State.answer_works hp (routeSlot_works h)
  | routeFill => exact State.answer_works hp (routeFill_works h)
  | probeSlot => exact State.answer_works hp (probeSlot_works h)
  | slotQuery =>
    apply State.answer_reads hp
    unfold slotQuery
    split <;> rfl
  | snap => exact State.answer_works hp (snap_works h)
  | dumpRead => exact State.answer_works hp (dumpRead_works h)
  | journalStatus => exact State.answer_works (d := journalStatus) hp h
  | setRun => exact State.answer_works hp (setRun_works h)
  | intakeHold =>
    apply State.answer_works hp
    unfold intakeHold
    repeat' split
    all_goals exact h
  | timeSet => exact State.answer_works hp (timeSet_works h)
  | runQuery => exact State.answer_reads hp rfl
  | settingRead =>
    apply State.answer_reads hp
    unfold settingRead
    repeat' split
    all_goals rfl
  | settingWrite => exact settingWriteCommand_works hp
  | reset => exact absurd rfl hc
  | faultRead => exact State.answer_reads hp rfl
  | faultClear => exact State.answer_works hp (faultClear_works h)
  | faultMask => exact State.answer_works hp (faultMask_works h)
  | faultInject => exact State.answer_works hp (faultInject_works h)
  | shiftQuery =>
    apply State.answer_reads hp
    unfold shiftQuery
    split <;> rfl
  | shiftClose => exact shiftCloseCommand_works hp

end Sys2Proof.Machine
end

section
/-! What the events of the radio side and of the store keep of the law of R134 and of the lists. -/

namespace Sys2Proof.Machine

open Sys2Proof

variable {s u : State}

/-! ### Terminal frames -/

theorem State.movePresence_works {i : Slot} {new : Presence} {id : Option Bytes} (h : Works s u) :
    Works s (u.movePresence i new id) := by
  unfold State.movePresence
  dsimp only
  split
  · exact h
  · split
    · exact State.offer_works (u := u.putSlot _ _) h
    · exact h

theorem State.takeWake_works {i : Slot} {id : Bytes} (h : Works s u) : Works s (u.takeWake i id) := by
  have hpresent : Works s ((u.putSlot i { u.slot i with terminalId := some id }).movePresence i .present (some id)) :=
    State.movePresence_works (u := u.putSlot _ _) h
  unfold State.takeWake
  dsimp only
  split <;> exact hpresent

theorem State.handleMessage_works {i : Slot} {m : UplinkMessage} (h : Works s u) : Works s (u.handleMessage i m) := by
  cases m with
  | wake => exact State.takeWake_works h
  | pick =>
    rw [State.handleMessage]
    unfold State.takePick
    repeat' split
    all_goals exact h
  | present =>
    rw [State.handleMessage]
    split
    · unfold State.handPresent
      split
      · exact State.takePresent_works h
      · exact State.takePresent_works h
      all_goals exact h
    · exact h
  | cancel =>
    rw [State.handleMessage]
    unfold State.handCancel
    split
    · exact State.takeCancel_works h
    all_goals exact h
  | ack =>
    rw [State.handleMessage]
    unfold State.takeAck
    split <;> exact h
  | echo => exact h

theorem State.takeMessage_works {i : Slot} {m : UplinkMessage} (h : Works s u) : Works s (u.takeMessage i m) := by
  have hturn : Works s (u.useEchoTurn i m) := by cases m <;> exact h
  apply State.handleMessage_works
  unfold State.foundAgain
  split
  · exact State.movePresence_works hturn
  · exact hturn

theorem State.badFrame_works {i : Slot} {frame : Bytes} (h : Works s u) : Works s (u.badFrame i frame) :=
  State.raise_works (u := u.putSlot _ _) h

theorem State.uplinkTurn_works {i : Slot} {m : UplinkMessage} (h : Works s u) : Works s (u.uplinkTurn i m) := by
  unfold State.uplinkTurn
  split
  · exact h
  · split
    · exact State.takeMessage_works h
    · exact State.badFrame_works h

/-! ### Turns, reports and boundaries -/

theorem State.downlinkTurn_works {i : Slot} (h : Works s u) : Works s (u.downlinkTurn i) := by
  unfold State.downlinkTurn
  split
  · exact h
  · split <;> exact h

theorem State.echoTurn_works {i : Slot} (h : Works s u) : Works s (u.echoTurn i) := by
  unfold State.echoTurn
  split <;> exact h

theorem State.presenceReport_works {i : Slot} {inRange : Bool} (h : Works s u) : Works s (u.presenceReport i inRange) := by
  unfold State.presenceReport
  split
  · exact h
  · split
    · exact State.movePresence_works (State.endProbe_works h)
    · exact State.movePresence_works h
    all_goals exact h

theorem State.boundaryAt_works {i : Slot} (h : Works s u) : Works s (u.boundaryAt i) := by
  unfold State.boundaryAt
  split
  · exact State.endProbe_works (u := u.putSlot _ _) h
  · exact h

theorem State.boundary_works (h : Works s u) : Works s u.boundary := by
  unfold State.boundary
  split
  · exact h
  · exact foldl_works _ _ (fun _ _ => State.boundaryAt_works) h

theorem State.fillHalf_works (h : Works s u) : Works s u.fillHalf := by
  have hhalf : ∀ (first : Nat) (r r' : Radio), Works s (((halfSlots first).foldl State.fillSlot (u.setRadio r)).setRadio r') := by
    intro first r r'
    rw [(fillFold_spec (halfSlots first) (halfSlots_nodup first) (u.setRadio r)).1]
    exact h
  unfold State.fillHalf
  split
  · exact h
  · dsimp only
    split
    · exact h
    · exact hhalf 0 _ _
    · exact State.offer_works (hhalf 32 _ _)

theorem execBadUplinkFrame_works {t : State} {i : Slot} {frame : Bytes} (e : execBadUplinkFrame i frame s = .next t) :
    Works s t := by
  cases e
  split
  · exact Works.refl s
  · split
    · exact State.takeMessage_works (Works.refl s)
    · exact State.badFrame_works (Works.refl s)

/-! ### The bank test, the SNAP line and an expiry -/

theorem State.startUpEnds_works (h : Works s u) : Works s u.startUpEnds := by
  unfold State.startUpEnds
  split
  · exact State.raise_works (u := u.setFaults _) h
  · exact h

theorem execBankTest_works {t : State} {pass : Bool} (e : execBankTest pass s = .next t) : Works s t := by
  have hgiven : ∀ j, Works s (s.setJournal j) := fun _ => Works.refl s
  cases e
  split
  · exact Works.refl s
  · split
    · exact Works.refl s
    · apply State.startUpEnds_works
      split
      · exact hgiven _
      · exact State.raise_works (hgiven _)

theorem execSnapLineFallingEdge_works {t : State} (e : execSnapLineFallingEdge s = .next t) : Works s t := by
  cases e
  split
  · exact State.offer_works (State.cutSnapshot_works (Works.refl s))
  · exact Works.refl s

theorem execAuthExpiry_works {t : State} {tender : U16} (e : execAuthExpiry tender s = .next t) : Works s t := by
  unfold execAuthExpiry at e
  split at e
  · cases e
    split
    · exact State.expireTender_works (Works.refl s)
    · exact Works.refl s
  · cases e
    exact Works.refl s

/-! ### The ends of store writes -/

theorem State.startWriteFault_works (h : Works s u) : Works s u.startWriteFault := by
  unfold State.startWriteFault
  split
  · exact h
  · exact State.raise_works h

theorem State.forceSetting_works {n v : Nat} (h : Works s u) : Works s (u.forceSetting n v) := by
  unfold State.forceSetting
  dsimp only
  have hput : ∀ (after : Settings) (r : Radio),
      Works s (if n = 18 ∨ n = 19 then
          ((u.setStore { u.store with settings := after }).setRadio r).setJournal
            (((u.setStore { u.store with settings := after }).setRadio r).journal.follow after)
        else (u.setStore { u.store with settings := after }).setRadio r) := by
    intro after r
    split <;> exact h
  split
  · exact State.forwardEntries_works (hput _ _)
  · exact hput _ _

theorem State.appendDone_works {number : Nat} (h : Works s u) : Works s (u.appendDone number) := by
  unfold State.appendDone
  split
  · apply State.forwardEntries_works
    dsimp only
    split
    · exact State.storedTender_works (State.appendRecord_works h)
    · exact h
  · exact h

theorem State.appendLost_works {number : Nat} (h : Works s u) : Works s (u.appendLost number) := by
  unfold State.appendLost
  split
  · dsimp only
    split
    · exact State.decline_works (u := u.setUplink _) h
    · exact h
  · exact h

section
variable {w : WriteInProgress}

/-- Putting a unit into the store leaves its list. -/
theorem SettingStore.write_lists (st : SettingStore) (unit : StoreUnit) :
    (st.write unit).waiting = st.waiting ∧ (st.write unit).current = st.current := by
  unfold SettingStore.write
  split <;> exact ⟨rfl, rfl⟩

theorem SettingStore.damage_lists (st : SettingStore) (unit : StoreUnit) :
    (st.damage unit).waiting = st.waiting ∧ (st.damage unit).current = st.current := by
  unfold SettingStore.damage
  split <;> exact ⟨rfl, rfl⟩

/-- A write that has ended: its reply, where it owes one, is owed besides those of the list (R148, R173). -/
theorem State.ended_owesBeside {st : SettingStore} {k : Nat} (hw : s.store.current = some w) (hwaiting : st.waiting = s.store.waiting)
    (hcurrent : st.current = none) (h : s.OwesBeside k) :
    (s.setStore st).OwesBeside (k + if w.request.isTagged then 1 else 0) := by
  obtain ⟨hlen, hp, ho⟩ := h
  refine ⟨by rwa [State.setStore_store, hwaiting], hp, ho.trans ?_⟩
  simp only [State.setStore_store, SettingStore.owing_eq, hw, hwaiting, hcurrent, Option.map_some, Option.map_none,
    Option.getD_some, Option.getD_none, Bool.false_eq_true, if_false]
  omega

theorem State.writeEnds_owesBeside {k : Nat} (hw : s.store.current = some w) (h : s.OwesBeside k) :
    (s.writeEnds w).OwesBeside (k + if w.request.isTagged then 1 else 0) :=
  State.ended_owesBeside hw (SettingStore.write_lists _ _).1 (SettingStore.write_lists _ _).2 h

theorem State.writeDamages_owesBeside {k : Nat} (hw : s.store.current = some w) (h : s.OwesBeside k) :
    (s.writeDamages w).OwesBeside (k + if w.request.isTagged then 1 else 0) :=
  State.ended_owesBeside hw (SettingStore.damage_lists _ _).1 (SettingStore.damage_lists _ _).2 h

theorem State.writeLost_owesBeside {k : Nat} (hw : s.store.current = some w) (h : s.OwesBeside k) :
    s.writeLost.OwesBeside (k + if w.request.isTagged then 1 else 0) := State.ended_owesBeside hw rfl rfl h

/-- The end of a write that owes no reply keeps the laws. -/
theorem Works.of_ended {v : State} (hr : w.request.isTagged = false) (he : s.HaltedEmpty → v.HaltedEmpty)
    (hv : ∀ k, s.OwesBeside k → v.OwesBeside (k + if w.request.isTagged then 1 else 0)) : Works s v :=
  ⟨he, fun k hk => by simpa [hr] using hv k hk⟩

/-- The end of a setting write of a command: its work, then the reply it owed. -/
theorem State.endReplied_works {v : State} {before : Nat} {f : Frame} (hr : w.request.isTagged = true)
    (he : s.HaltedEmpty → v.HaltedEmpty) (hv : ∀ k, s.OwesBeside k → v.OwesBeside (k + if w.request.isTagged then 1 else 0))
    (h : Works v u) : Works s (u.queueReply before f) :=
  ⟨fun hs => State.queueReply_haltedEmpty (h.1 (he hs)), fun k hk =>
    State.queueReply_owesBeside (h.2 (k + 1) (by simpa [hr] using hv k hk))⟩

end

theorem execSettingWriteComplete_works {t : State} (e : execSettingWriteComplete s = .next t) : Works s t := by
  cases e
  split
  · next w _ hw =>
    split
    · next hreq =>
      exact State.pumpStore_works (State.endReplied_works (v := s.writeEnds w) (by rw [hreq]; rfl) id
        (fun _ => State.writeEnds_owesBeside hw) (State.forceSetting_works (Works.refl _)))
    · next hreq =>
      exact State.pumpStore_works (Works.of_ended (w := w) (by rw [hreq]; rfl) id fun _ => State.writeEnds_owesBeside hw)
    all_goals exact Works.refl s
  · exact Works.refl s

theorem execSettingWriteFail_works {t : State} (e : execSettingWriteFail s = .next t) : Works s t := by
  cases e
  split
  · next w _ hw =>
    split
    · next hreq =>
      exact State.pumpStore_works (State.endReplied_works (v := s.writeDamages w) (by rw [hreq]; rfl) id
        (fun _ => State.writeDamages_owesBeside hw) (State.raise_works (Works.refl _)))
    · next hreq =>
      exact State.pumpStore_works (State.startWriteFault_works
        (Works.of_ended (w := w) (by rw [hreq]; rfl) id fun _ => State.writeDamages_owesBeside hw))
    all_goals exact Works.refl s
  · exact Works.refl s

theorem execForwardAppendComplete_works {t : State} (e : execForwardAppendComplete s = .next t) : Works s t := by
  cases e
  split
  · next w _ hw =>
    split
    · next hreq _ =>
      exact State.pumpStore_works (State.appendDone_works
        (Works.of_ended (w := w) (by rw [hreq]; rfl) id fun _ => State.writeEnds_owesBeside hw))
    · exact Works.refl s
  · exact Works.refl s

theorem execForwardAppendFail_works {t : State} (e : execForwardAppendFail s = .next t) : Works s t := by
  cases e
  split
  · next w _ hw =>
    split
    · next hreq =>
      have hr : w.request.isTagged = false := by rw [hreq]; rfl
      have hfails : Works s (s.appendFails w) := by
        unfold State.appendFails
        split
        · exact Works.of_ended (v := s.writeLost.setFree _) hr id fun _ => State.writeLost_owesBeside hw
        · exact Works.of_ended (v := (s.writeDamages w).setFree _) hr id fun _ => State.writeDamages_owesBeside hw
      exact State.pumpStore_works (State.raise_works (State.appendLost_works hfails))
    all_goals exact Works.refl s
  · exact Works.refl s

theorem execForwardFreeComplete_works {t : State} (e : execForwardFreeComplete s = .next t) : Works s t := by
  cases e
  split
  · next w _ hw =>
    split
    · next hreq =>
      exact State.pumpStore_works (u := (s.writeEnds w).setUplink _)
        (Works.of_ended (w := w) (by rw [hreq]; rfl) id fun _ => State.writeEnds_owesBeside hw)
    all_goals exact Works.refl s
  · exact Works.refl s

theorem execForwardFreeFail_works {t : State} (e : execForwardFreeFail s = .next t) : Works s t := by
  cases e
  split
  · next w _ hw =>
    split
    · next hreq =>
      exact State.pumpStore_works (State.raise_works
        (Works.of_ended (w := w) (by rw [hreq]; rfl) id fun _ => State.writeLost_owesBeside hw))
    all_goals exact Works.refl s
  · exact Works.refl s

end Sys2Proof.Machine
end

section
/-! The resets and power, which end with both laws whatever stood before, the server line, and every instruction. -/

namespace Sys2Proof.Machine

open Sys2Proof

variable {s t u : State}

/-- An event from `s` to `t` keeps the law of R134, and those of the lists. -/
def Keeps (s t : State) : Prop := (s.HaltedEmpty → t.HaltedEmpty) ∧ (s.ListsFormed → t.ListsFormed)

theorem Keeps.refl (s : State) : Keeps s s := ⟨id, id⟩

theorem Works.keeps (h : Works s t) : Keeps s t := ⟨h.1, fun hs => t.listsFormed_iff.mpr (h.2 0 (s.listsFormed_iff.mp hs))⟩

/-- Both laws hold. -/
def State.Lawful (s : State) : Prop := s.HaltedEmpty ∧ s.ListsFormed

theorem State.Lawful.keeps (h : t.Lawful) : Keeps s t := ⟨fun _ => h.1, fun _ => h.2⟩

theorem State.Lawful.after (h : u.Lawful) (hw : Works u t) : t.Lawful := ⟨hw.keeps.1 h.1, hw.keeps.2 h.2⟩

theorem Works.trans_keeps (h : Works s u) (h' : Keeps u t) : Keeps s t := ⟨h'.1 ∘ h.keeps.1, h'.2 ∘ h.keeps.2⟩

/-! ### Resets -/

theorem State.pumpStore_line (s : State) : s.pumpStore.line = s.line := by rw [State.pumpStore_frame]

/-- A line reset owes the reply of the setting write in progress alone (R173). -/
theorem State.lineReset_places (s : State) (cause : ResetCause) : (s.lineReset cause).line.places ≤ 1 := by
  unfold State.lineReset
  rw [State.pumpStore_line]
  show 0 + (if s.store.owesReply then 1 else 0) ≤ 1
  split <;> decide

/-- A line reset empties every table and list, and owes the reply of the setting write in progress (R1, R43, R150, R173). -/
theorem State.lineReset_lawful (s : State) (cause : ResetCause) : (s.lineReset cause).Lawful := by
  unfold State.lineReset
  refine State.Lawful.after ⟨fun _ => ⟨rfl, rfl⟩, Nat.zero_le _, ?_, ?_⟩ (State.pumpStore_works (Works.refl _))
  · show 0 + (if s.store.owesReply then 1 else 0) ≤ 64
    split <;> decide
  · show (if s.store.owesReply then 1 else 0) = 0 + if s.store.owesReply then 1 else 0
    rw [Nat.zero_add]

theorem State.commandReset_lawful (s : State) (tag : U8) : (s.commandReset tag).Lawful :=
  State.Lawful.after (s.lineReset_lawful .command) (State.enqueue_works (State.appendRecord_works (Works.refl _))
    (Nat.lt_of_le_of_lt (s.lineReset_places .command) (by decide)))

theorem resetCommand_lawful (s : State) (tag : U8) : (resetCommand tag s).Lawful := by
  have hreset : (s.commandReset tag).Lawful := s.commandReset_lawful tag
  unfold resetCommand
  dsimp only
  split
  · split <;> exact hreset
  · exact hreset

theorem execResetPinFall_keeps (e : execResetPinFall s = .next t) : Keeps s t := by
  cases e
  split
  · exact Keeps.refl s
  · dsimp only
    split
    · exact State.Lawful.keeps (State.lineReset_lawful _ .pin)
    · exact Keeps.refl s

theorem execResetPinRise_keeps (e : execResetPinRise s = .next t) : Keeps s t := by
  cases e
  dsimp only
  split <;> exact Keeps.refl s

/-! ### Power -/

theorem State.lawful_of_empty (hchecks : s.checks = []) (hpool : s.tenders.pool = []) (hline : s.line = .start)
    (hwaiting : s.store.waiting = []) (hcurrent : s.store.current = none) : s.Lawful := by
  refine ⟨fun _ => ⟨hchecks, hpool⟩, ?_, ?_, ?_⟩
  · rw [hwaiting]
    decide
  · rw [hline]
    decide
  · rw [hline, SettingStore.owing_eq, hwaiting, hcurrent]
    rfl

theorem raiseEntryBad_works {n : Nat} (h : Works s u) : Works s (raiseEntryBad n u) := by
  induction n generalizing u with
  | zero => exact h
  | succ n ih => exact ih (State.raise_works h)

theorem raiseEntryBad_store (n : Nat) (s : State) : (raiseEntryBad n s).store = s.store := by
  induction n generalizing s with
  | zero => rfl
  | succ n ih => exact (ih _).trans (raise_reported ..).store

/-- Power-on starts every table and list empty, and its own setting write owes no reply (R143). -/
theorem State.powerOn_lawful (s : State) : s.powerOn.Lawful := by
  have hread : Works s.reloaded (raiseEntryBad s.store.badUnits s.reloaded) := raiseEntryBad_works (Works.refl _)
  refine State.Lawful.after (u := s.reloaded) (State.lawful_of_empty rfl rfl rfl rfl rfl) ?_
  unfold State.powerOn
  dsimp only
  split
  · refine State.placeRequest_works hread rfl ?_
    rw [raiseEntryBad_store]
    exact Nat.zero_lt_succ 7
  · exact hread

theorem execLossOfPower_keeps {cut : PowerCut} (e : execLossOfPower cut s = .next t) : Keeps s t := by
  cases e
  split
  · exact Keeps.refl s
  · exact State.Lawful.keeps (State.lawful_of_empty rfl rfl rfl rfl rfl)

/-! ### The server line -/

section
variable {f : Bytes}

/-- The framer keeps the queue and the replies owed. -/
theorem State.setLine_works {l : ServerLine} (h : Works s u) (hqueue : l.queue = u.line.queue) (howed : l.owed = u.line.owed) :
    Works s (u.setLine l) :=
  h.trans ⟨id, fun _ ⟨hw, hp, ho⟩ => ⟨hw, by rwa [State.setLine_line, ServerLine.places, hqueue, howed], howed.trans ho⟩⟩

theorem State.takeCommand_keeps {bytes : Bytes} {tag : U8} {c : HostCommand} (hp : s.line.places < 64) :
    Keeps s (s.takeCommand bytes tag c) := by
  unfold State.takeCommand
  split
  · exact (State.answer_reads hp rfl).keeps
  · by_cases hc : c = .reset
    · subst hc
      exact State.Lawful.keeps (resetCommand_lawful s tag)
    · exact (runHost_works hp hc).keeps

theorem State.hostRow_keeps {tag : U8} {c : HostCommand} : Keeps s (s.hostRow tag c) := by
  unfold State.hostRow
  split
  · exact Keeps.refl s
  · split
    · next hp => exact State.takeCommand_keeps hp
    · exact Keeps.refl s

theorem State.deliver_keeps (hp : s.line.places < 64) : Keeps s (s.deliver f) := by
  unfold State.deliver
  dsimp only
  split
  · exact (State.queueReply_works hp (State.raise_works (Works.refl _))).keeps
  · split
    · exact (State.answer_reads hp rfl).keeps
    · split
      · exact (State.answer_reads hp rfl).keeps
      · exact State.takeCommand_keeps hp

theorem State.completeFrame_keeps : Keeps s (s.completeFrame f) := by
  unfold State.completeFrame
  dsimp only
  have hhunt := State.setLine_works (l := { s.line with framer := .hunt, rx := [], gapRunning := false }) (Works.refl s) rfl rfl
  split
  · unfold State.takeFrame
    split
    · next hp => exact hhunt.trans_keeps (State.deliver_keeps hp)
    · exact (State.setLine_works hhunt rfl rfl).keeps
  · exact (State.raise_works hhunt).keeps

theorem State.lengthByte_keeps {b : U8} : Keeps s (s.lengthByte b) := by
  have hresumed : ∀ x y, Works s (s.setLine (s.line.resume x y)) := by
    intro x y
    unfold ServerLine.resume
    split
    · exact State.setLine_works (Works.refl s) rfl rfl
    · split <;> exact State.setLine_works (Works.refl s) rfl rfl
  unfold State.lengthByte
  dsimp only
  split
  · exact Keeps.refl s
  · split
    · exact Keeps.refl s
    · exact (State.raise_works (hresumed _ _)).keeps

theorem execServerByte_keeps {byte : U8} (e : execServerByte byte s = .next t) : Keeps s t := by
  cases e
  split
  · exact Keeps.refl s
  · split
    · split <;> exact Keeps.refl s
    · exact State.lengthByte_keeps
    · unfold State.collectByte
      dsimp only
      split
      · exact Keeps.refl s
      · exact State.completeFrame_keeps
    · exact Keeps.refl s

theorem execGapTimerExpiry_keeps (e : execGapTimerExpiry s = .next t) : Keeps s t := by
  cases e
  split
  · exact (State.raise_works (State.setLine_works (l := s.line.hunting) (Works.refl s) rfl rfl)).keeps
  · exact Keeps.refl s

theorem execHeldCommandDispatch_keeps (e : execHeldCommandDispatch s = .next t) : Keeps s t := by
  cases e
  split
  · exact Keeps.refl s
  · split
    · next hp =>
      have hfreed := State.setLine_works (l := { s.line with held := none, framer := .hunt }) (Works.refl s) rfl rfl
      exact hfreed.trans_keeps (State.deliver_keeps hp.2)
    · exact Keeps.refl s

/-- A frame sent gives its place back before the close list is offered (R173, R183). -/
theorem execFrameSent_works (e : execFrameSent s = .next t) : Works s t := by
  cases e
  split
  · next f rest _ hq =>
    refine offerWithin_works (u := s.setLine { s.line with queue := rest, sent := some f })
      ⟨id, fun k ⟨hw, hp, ho⟩ => ⟨hw, ?_, ho⟩⟩
    simp only [State.setLine_line, ServerLine.places, hq, List.length_cons] at hp ⊢
    omega
  · exact Works.refl s

end

/-! ### Every instruction -/

/-- A command of the server line keeps the laws through its row; each event keeps them by its own meaning. -/
theorem exec_keeps {i : Instr} (e : exec i s = .next t) : Keeps s t := by
  have h : Works s s := Works.refl s
  cases hrow : hostRowOf i with
  | some row =>
    rw [exec_hostRowOf hrow] at e
    cases e
    exact State.hostRow_keeps
  | none =>
    cases i with
    | powerOn => cases e; exact s.powerOn_lawful.keeps
    | resetPinFall => exact execResetPinFall_keeps e
    | resetPinRise => exact execResetPinRise_keeps e
    | lossOfPower => exact execLossOfPower_keeps e
    | serverByte => exact execServerByte_keeps e
    | gapTimerExpiry => exact execGapTimerExpiry_keeps e
    | heldCommandDispatch => exact execHeldCommandDispatch_keeps e
    | frameSent => exact (execFrameSent_works e).keeps
    | bankTest => exact (execBankTest_works e).keeps
    | clockStep => cases e; split <;> exact Keeps.refl s
    | authExpiry => exact (execAuthExpiry_works e).keeps
    | superframeBoundary => cases e; exact (State.boundary_works h).keeps
    | fillHalf => cases e; exact (State.fillHalf_works h).keeps
    | downlinkTurn => cases e; exact (State.downlinkTurn_works h).keeps
    | echoTurn => cases e; exact (State.echoTurn_works h).keeps
    | presenceReport => cases e; exact (State.presenceReport_works h).keeps
    | wake | pick | present | cancel | ack | echo => cases e; exact (State.uplinkTurn_works h).keeps
    | badUplinkFrame => exact (execBadUplinkFrame_works e).keeps
    | snapLineFallingEdge => exact (execSnapLineFallingEdge_works e).keeps
    | settingWriteComplete => exact (execSettingWriteComplete_works e).keeps
    | settingWriteFail => exact (execSettingWriteFail_works e).keeps
    | forwardAppendComplete => exact (execForwardAppendComplete_works e).keeps
    | forwardAppendFail => exact (execForwardAppendFail_works e).keeps
    | forwardFreeComplete => exact (execForwardFreeComplete_works e).keeps
    | forwardFreeFail => exact (execForwardFreeFail_works e).keeps
    | _ => cases hrow

/-- An idle step changes nothing, and every instruction keeps the laws. -/
theorem step_keeps (e : step s = .next t) : Keeps s t := by
  unfold step at e
  split at e
  · cases e
    exact Keeps.refl s
  · next rest _ => exact exec_keeps (s := s.setPending rest) e

end Sys2Proof.Machine

open Sys2Proof Sys2Proof.Machine

/-- Settles O5: HALTED is entered only with both tables empty, and nothing comes into them while it lasts. -/
theorem stepKeepsHaltedEmpty : Obligations.StepKeepsHaltedEmpty := fun _ _ hs e => (step_keeps e).1 hs

/-- Settles O6: a notice and a request come in only where there is room, and a reply takes the place its command holds. -/
theorem stepKeepsListsFormed : Obligations.StepKeepsListsFormed := fun _ _ hs e => (step_keeps e).2 hs

end

section
/-! RUN QUERY, SETTING READ and FAULT READ: each answers from the state it finds (R139, R146, R160). -/

namespace Sys2Proof.Machine

open Sys2Proof

variable {s : State} {setting : U8}

theorem isSetting_iff {n : Nat} : isSetting n = true ↔ 1 ≤ n ∧ n ≤ 26 := decide_eq_true_iff

theorem settingRead_one (h1 : 1 ≤ setting.toNat) (h2 : setting.toNat ≤ 26) :
    settingRead setting s = s.accept (le 4 (s.store.settings.get setting.toNat) ++ [0]) := by
  have h0 : setting ≠ 0 := by
    rintro rfl
    exact absurd h1 (by decide)
  rw [settingRead, if_neg h0, if_pos (isSetting_iff.mpr ⟨h1, h2⟩)]
  rfl

theorem settingRead_range (h : 26 < setting.toNat) : settingRead setting s = s.refuse .range := by
  have h0 : setting ≠ 0 := by
    rintro rfl
    exact absurd h (by decide)
  rw [settingRead, if_neg h0, if_neg fun hs => Nat.not_le.mpr h (isSetting_iff.mp hs).2]

/-- The three classes of FAULT READ, in their order (R160). -/
theorem faultRead_eq (s : State) : faultRead s = s.accept
    (s.faults.note.bytes .note ++ flag s.store.settings.notifyNote ++ s.faults.fault.bytes .fault ++
      flag s.store.settings.notifyFault ++ s.faults.severe.bytes .severe ++ flag s.store.settings.notifySevere ++
      (FaultCode.all.map fun c => flag (s.faults.rule c).masked ++ [(s.faults.rule c).cls.code]).flatten ++
      flag (s.faults.fault.record.isSome || s.faults.severe.record.isSome) ++ flag s.store.settings.injectEnable) := by
  simp only [faultRead, FaultClass.all, List.map_cons, List.map_nil, List.flatten_cons, List.flatten_nil, FaultCapture.classState,
    Settings.notify, State.alert, List.append_assoc, List.nil_append]

end Sys2Proof.Machine

open Sys2Proof Sys2Proof.Machine

/-- Settles O19: each query passes its range test or not, and its owner changes nothing. -/
theorem statusQueriesReport : Obligations.StatusQueriesReport := by
  intro s tag ht
  refine ⟨?_, fun n h1 h2 => ?_, fun n h => ?_, ?_, ?_⟩
  · exact exec_answered .runQuery runQuery rfl ht rfl rfl rfl rfl
  · exact exec_answered (.settingRead n) (settingRead n) rfl ht rfl rfl rfl (settingRead_one h1 h2)
  · exact exec_answered (.settingRead n) (settingRead n) rfl ht rfl rfl rfl (settingRead_range h)
  · exact exec_answered (.settingRead 0) (settingRead 0) rfl ht rfl rfl rfl rfl
  · exact exec_answered .faultRead faultRead rfl ht rfl rfl rfl (faultRead_eq s.owe)

end

section
/-! How a raise is judged where its notice is dropped too, and FAULT INJECT (R153 to R156, R162, R163). -/

namespace Sys2Proof.Machine

open Sys2Proof

/-- What a class holds does not touch the mask and the class of a code. -/
theorem FaultCapture.setClass_rule (f : FaultCapture) (c : FaultClass) (x : ClassState) (code : FaultCode) :
    (f.setClass c x).rule code = f.rule code := by
  cases c <;> rfl

theorem FaultCapture.setClass_classState (f : FaultCapture) (c : FaultClass) (x : ClassState) :
    (f.setClass c x).classState c = x := by
  cases c <;> rfl

section
variable {s : State} {code : FaultCode}

/-- What a raise of a class leaves of the run state: SERVING falls to IDLE, with its record, at a SEVERE one (R138, R156). -/
theorem State.severeReport_eq (t : State) (cls : FaultClass) : t.severeReport cls =
    if cls = .severe ∧ t.run.state = .serving then
      { t with
        run := { t.run with state := .idle }
        journal := t.journal.append t.run.clock { kind := .runState, flags := 0x26 } }
    else t := by
  unfold State.severeReport
  split
  · next h =>
    simp only [State.changeRun, State.appendRecord, State.setJournal, State.setRun, h.2]
    rfl
  · rfl

theorem raiseWithin_masked (n : Nat) (source : FaultSource) (bytes : Bytes) (h : (s.faults.rule code).masked = true) :
    raiseWithin (n + 1) code source bytes s = s := by
  rw [raiseWithin]
  exact if_pos h

theorem raiseWithin_held (n : Nat) (source : FaultSource) (bytes : Bytes) {r : FaultRecord}
    (h : (s.faults.rule code).masked = false) (hr : (s.faults.classState (s.faults.rule code).cls).record = some r) :
    raiseWithin (n + 1) code source bytes s =
      (s.setFaults (s.faults.setClass (s.faults.rule code).cls { record := some r, further := true })).severeReport
        (s.faults.rule code).cls := by
  rw [raiseWithin]
  dsimp only
  rw [if_neg (by simp [h]), hr]

/-- The state with the record of a raise captured (R153, R154). -/
def State.captured (s : State) (code : FaultCode) (source : FaultSource) (bytes : Bytes) : State :=
  s.setFaults (s.faults.setClass (s.faults.rule code).cls { record := some (s.firstFault code source bytes), further := false })

/-- A raise whose class holds no record: captured, then told or not, then reported (R153 to R156). -/
theorem raiseWithin_captures (n : Nat) (source : FaultSource) (bytes : Bytes) (h : s.faults.captures code) :
    raiseWithin (n + 1) code source bytes s =
      (if s.store.settings.notify (s.faults.rule code).cls = true then
        if s.line.places < 56 then
          (s.captured code source bytes).enqueue (faultNotice (s.faults.rule code).cls (s.firstFault code source bytes))
        else raiseWithin n .noticeOverrun .serverLine
          (faultNotice (s.faults.rule code).cls (s.firstFault code source bytes)).bytes (s.captured code source bytes)
      else s.captured code source bytes).severeReport (s.faults.rule code).cls := by
  obtain ⟨hm, hr⟩ := h
  rw [raiseWithin]
  dsimp only
  rw [if_neg (by simp [hm]), hr]
  rfl

theorem State.raise_masked (source : FaultSource) (bytes : Bytes) (h : (s.faults.rule code).masked = true) :
    s.raise code source bytes = s := raiseWithin_masked 2 source bytes h

/-- The NOTICE OVERRUN of a dropped FAULT notice ends within two raises: the second finds the record of the first (R155). -/
theorem raiseWithin_overrun (s : State) (bytes : Bytes) :
    raiseWithin 2 .noticeOverrun .serverLine bytes s = s.raise .noticeOverrun .serverLine bytes := by
  unfold State.raise
  cases hm : (s.faults.rule .noticeOverrun).masked with
  | true => rw [raiseWithin_masked 1 _ _ hm, raiseWithin_masked 2 _ _ hm]
  | false =>
    cases hr : (s.faults.classState (s.faults.rule .noticeOverrun).cls).record with
    | some r => rw [raiseWithin_held 1 _ _ hm hr, raiseWithin_held 2 _ _ hm hr]
    | none =>
      have hrule : (s.captured .noticeOverrun .serverLine bytes).faults.rule .noticeOverrun = s.faults.rule .noticeOverrun :=
        FaultCapture.setClass_rule ..
      have hheld : ((s.captured .noticeOverrun .serverLine bytes).faults.classState
          ((s.captured .noticeOverrun .serverLine bytes).faults.rule .noticeOverrun).cls).record =
            some (s.firstFault .noticeOverrun .serverLine bytes) := by
        rw [hrule]
        exact congrArg ClassState.record (FaultCapture.setClass_classState ..)
      have hm' := (congrArg CodeRule.masked hrule).trans hm
      rw [raiseWithin_captures 1 _ _ ⟨hm, hr⟩, raiseWithin_captures 2 _ _ ⟨hm, hr⟩, raiseWithin_held 0 _ _ hm' hheld,
        raiseWithin_held 1 _ _ hm' hheld]

end

/-! ### FAULT INJECT -/

section
variable {s : State} {bytes : Bytes}

theorem FaultCode.ofNumber_number (c : FaultCode) : FaultCode.ofNumber c.number = some c := by
  cases c <;> rfl

theorem FaultCode.ofNumber_none {b : U8} (h : b = 0 ∨ 18 < b.toNat) : FaultCode.ofNumber b = none := by
  obtain rfl | h := h
  · rfl
  · have hb : b ≠ 0 := by
      rintro rfl
      exact absurd h (by decide)
    rw [FaultCode.ofNumber, if_neg hb]
    exact List.getElem?_eq_none (show 18 ≤ b.toNat - 1 by omega)

theorem faultInject_off (code : U8) (h : s.store.settings.injectEnable = false) : faultInject bytes code s = s.refuse .state := by
  rw [faultInject, if_pos (by simp [h])]

theorem faultInject_range {code : U8} (h : s.store.settings.injectEnable = true) (hc : code = 0 ∨ 18 < code.toNat) :
    faultInject bytes code s = s.refuse .range := by
  rw [faultInject, if_neg (by simp [h]), FaultCode.ofNumber_none hc]

theorem faultInject_raises {c : FaultCode} (h : s.store.settings.injectEnable = true) (hadm : s.admits c) :
    faultInject (bytes.take 8) c.number s = (s.faulted c .inject bytes, .accepted (injectData s c)) := by
  rw [faultInject, if_neg (by simp [h]), FaultCode.ofNumber_number]
  dsimp only
  rw [State.raise_faulted _ _ hadm, State.faulted_take]

end

end Sys2Proof.Machine

open Sys2Proof Sys2Proof.Machine

/-- Settles O52: a raise by its mask, its class's record and the room for its notice; FAULT INJECT by its setting and its code. -/
theorem raiseJudged : Obligations.RaiseJudged := by
  refine ⟨fun s code source bytes => ?_, fun s tag ht => ⟨fun hoff b => ?_, fun hon => ⟨fun b hb => ?_, fun c hadm => ?_⟩⟩⟩
  · intro cls held record captured reported
    refine ⟨State.raise_masked source bytes, fun hm hheld => ?_, fun hm hnone => ⟨fun hn => ?_, fun hn hp => ?_, fun hn hp => ?_⟩⟩
    · obtain ⟨r, hr⟩ := Option.isSome_iff_exists.mp hheld
      refine (raiseWithin_held 2 source bytes hm hr).trans ((State.severeReport_eq _ _).trans ?_)
      rw [hr]
      rfl
    · refine (raiseWithin_captures 2 source bytes ⟨hm, hnone⟩).trans ?_
      rw [if_neg (by rw [hn]; decide)]
      exact State.severeReport_eq _ _
    · refine (raiseWithin_captures 2 source bytes ⟨hm, hnone⟩).trans ?_
      rw [if_pos hn, if_pos hp]
      exact State.severeReport_eq _ _
    · refine (raiseWithin_captures 2 source bytes ⟨hm, hnone⟩).trans ?_
      rw [if_pos hn, if_neg (Nat.not_lt.mpr hp), raiseWithin_overrun]
      exact State.severeReport_eq _ _
  · exact exec_answered (.faultInject b) _ rfl ht rfl rfl rfl (faultInject_off b hoff)
  · exact exec_answered (.faultInject b) _ rfl ht rfl rfl rfl (faultInject_range hon hb)
  · intro rule data
    refine ⟨_, exec_taken (c := .faultInject c.number) rfl ht rfl rfl, ?_⟩
    exact State.answer_answeredFrom (faultInject_raises (s := s.owe) hon hadm) (List.prefix_append ..)

end

section
/-! The framer and its gap timer (R166, R167). -/

namespace Sys2Proof.Machine

open Sys2Proof

variable {s : State} {b : U8}

theorem leValue_lt (bytes : Bytes) : leValue bytes < 256 ^ bytes.length := by
  induction bytes with
  | nil => decide
  | cons x rest ih =>
    have := x.isLt
    rw [leValue, List.length_cons, Nat.pow_succ]
    omega

/-- The length field holds two bytes, so nothing of it is cut off (R165). -/
theorem frameLength_eq (rx : Bytes) : frameLength rx = leValue ((rx.drop 1).take 2) := by
  rw [frameLength, field16, BitVec.toNat_ofNat]
  refine Nat.mod_eq_of_lt (Nat.lt_of_lt_of_le (leValue_lt _) ?_)
  exact Nat.pow_le_pow_right (n := 256) (by decide) (List.length_take_le 2 _)

/-- A frame with its length bytes may be collected (R166). -/
abbrev lengthGood (rx : Bytes) : Prop := 2 ≤ leValue ((rx.drop 1).take 2) ∧ leValue ((rx.drop 1).take 2) ≤ 1026

/-- Whether a FAULT notice is admitted does not depend on the framer. -/
theorem State.setLine_admits {l : ServerLine} {code : FaultCode} (hqueue : l.queue = s.line.queue) (howed : l.owed = s.line.owed)
    (h : s.admits code) : (s.setLine l).admits code := by
  rwa [State.admits, State.setLine_line, ServerLine.places, hqueue, howed]

/-! ### A byte in each state -/

theorem exec_serverByte_dead (h : s.live = false) : exec (.serverByte b) s = .next s := by
  rw [exec, execServerByte, if_pos (by simp [h])]

section
variable (hlive : s.live = true)
include hlive

theorem exec_serverByte_hunt (hf : s.line.framer = .hunt) :
    exec (.serverByte b) s = .next (if b = 0xA5 then s.setLine (s.line.begin [0xA5]) else s) := by
  rw [exec, execServerByte, if_neg (by simp [hlive]), hf]

theorem exec_serverByte_length (hf : s.line.framer = .length) : exec (.serverByte b) s = .next (s.lengthByte b) := by
  rw [exec, execServerByte, if_neg (by simp [hlive]), hf]

theorem exec_serverByte_collect (hf : s.line.framer = .collect) : exec (.serverByte b) s = .next (s.collectByte b) := by
  rw [exec, execServerByte, if_neg (by simp [hlive]), hf]

theorem exec_serverByte_held (hf : s.line.framer = .held) : exec (.serverByte b) s = .next s := by
  rw [exec, execServerByte, if_neg (by simp [hlive]), hf]

end

theorem State.lengthByte_first (h : s.line.rx.length = 1) : s.lengthByte b = s.setLine { s.line with rx := s.line.rx ++ [b] } := by
  rw [State.lengthByte]
  exact if_pos (by simp [h])

theorem State.lengthByte_good (h : s.line.rx.length = 2) (hg : lengthGood (s.line.rx ++ [b])) :
    s.lengthByte b = s.setLine { s.line with rx := s.line.rx ++ [b], framer := .collect } := by
  rw [State.lengthByte]
  dsimp only
  rw [if_neg (by simp [h]), frameLength_eq, if_pos hg]

theorem State.lengthByte_bad (h : s.line.rx.length = 2) (hg : ¬lengthGood (s.line.rx ++ [b])) :
    s.lengthByte b = (s.setLine (s.line.resume (byteAt (s.line.rx ++ [b]) 1) b)).raise .hostFrameLength .serverLine
      (s.line.rx ++ [b]) := by
  rw [State.lengthByte]
  dsimp only
  rw [if_neg (by simp [h]), frameLength_eq, if_neg hg]

/-- The search resumed leaves the queue and the replies owed. -/
theorem ServerLine.resume_queue (l : ServerLine) (x y : U8) : (l.resume x y).queue = l.queue ∧ (l.resume x y).owed = l.owed := by
  unfold ServerLine.resume
  split
  · exact ⟨rfl, rfl⟩
  · split <;> exact ⟨rfl, rfl⟩

/-- The first length byte, where the search resumes, is the second byte received. -/
theorem byteAt_second {rx : Bytes} (h : rx.length = 2) (b x : U8) : byteAt (rx ++ [b]) 1 = x ↔ rx[1]? = some x := by
  rw [byteAt, List.getD_eq_getElem?_getD, List.getElem?_append_left (by omega), List.getElem?_eq_getElem (by omega)]
  simp

theorem State.collectByte_more (h : (s.line.rx ++ [b]).length < leValue (((s.line.rx ++ [b]).drop 1).take 2) + 5) :
    s.collectByte b = s.setLine { s.line with rx := s.line.rx ++ [b] } := by
  rw [State.collectByte]
  dsimp only
  rw [frameLength_eq, if_pos h]

theorem State.collectByte_last (h : leValue (((s.line.rx ++ [b]).drop 1).take 2) + 5 ≤ (s.line.rx ++ [b]).length) :
    s.collectByte b = s.completeFrame (s.line.rx ++ [b]) := by
  rw [State.collectByte]
  dsimp only
  rw [frameLength_eq, if_neg (Nat.not_lt.mpr h)]

theorem State.completeFrame_bad {f : Bytes} (h : frameCrcGood f = false) :
    s.completeFrame f = (s.setLine s.line.hunting).raise .hostFrameCrc .serverLine f := by
  rw [State.completeFrame]
  exact if_neg (by simp [h])

/-! ### The gap timer -/

theorem exec_gapTimerExpiry_idle (h : s.live = false ∨ s.line.gapRunning = false) : exec .gapTimerExpiry s = .next s := by
  rw [exec, execGapTimerExpiry, if_neg (by simpa [← Bool.not_eq_true, ← not_and_or] using h)]

theorem exec_gapTimerExpiry_ends (hlive : s.live = true) (h : s.line.gapRunning = true) :
    exec .gapTimerExpiry s = .next ((s.setLine s.line.hunting).raise .hostFrameGap .serverLine s.line.rx) := by
  rw [exec, execGapTimerExpiry, if_pos (by simp [hlive, h])]

end Sys2Proof.Machine

open Sys2Proof Sys2Proof.Machine

/-- Settles O59: the framer by its state, a bad frame raised from the state in which the framer goes on. -/
theorem framerTakesBytes : Obligations.FramerTakesBytes := by
  intro s b l rx length on hunt
  refine ⟨fun hdead => ⟨exec_serverByte_dead hdead, exec_gapTimerExpiry_idle (.inl hdead)⟩, fun hlive => ⟨fun hf => ?_,
    fun hf h1 => ?_, fun hf h2 hlow hhigh => ?_, fun hf h2 hbad hadm => ?_, fun hf _ hless => ?_, fun hf _ hall hcrc hadm => ?_,
    exec_serverByte_held hlive, fun hgap => exec_gapTimerExpiry_idle (.inr hgap), fun hgap hadm => ?_⟩⟩
  · rw [exec_serverByte_hunt hlive hf]
    rfl
  · rw [exec_serverByte_length hlive hf, State.lengthByte_first h1]
    rfl
  · rw [exec_serverByte_length hlive hf, State.lengthByte_good h2 ⟨hlow, hhigh⟩]
    rfl
  · intro resumed
    have hg : ¬lengthGood (s.line.rx ++ [b]) := fun hg => hbad.elim (Nat.not_lt.mpr hg.1) (Nat.not_lt.mpr hg.2)
    obtain ⟨hqueue, howed⟩ := s.line.resume_queue (byteAt (s.line.rx ++ [b]) 1) b
    have hresumed : s.line.resume (byteAt (s.line.rx ++ [b]) 1) b = resumed := by
      unfold ServerLine.resume
      by_cases hfirst : byteAt (s.line.rx ++ [b]) 1 = 0xA5
      · rw [if_pos hfirst]
        exact (if_pos ((byteAt_second h2 b _).mp hfirst)).symm
      · rw [if_neg hfirst]
        exact (if_neg fun h => hfirst ((byteAt_second h2 b _).mpr h)).symm
    rw [exec_serverByte_length hlive hf, State.lengthByte_bad h2 hg, State.raise_faulted _ _ (State.setLine_admits hqueue howed hadm),
      hresumed]
    rfl
  · rw [exec_serverByte_collect hlive hf, State.collectByte_more hless]
    rfl
  · rw [exec_serverByte_collect hlive hf, State.collectByte_last hall, State.completeFrame_bad hcrc,
      State.raise_faulted _ _ (State.setLine_admits (l := s.line.hunting) rfl rfl hadm)]
    rfl
  · rw [exec_gapTimerExpiry_ends hlive hgap, State.raise_faulted _ _ (State.setLine_admits (l := s.line.hunting) rfl rfl hadm)]
    rfl

end

section
/-! The rows of the host commands, and the held command (R168, R171, R172). -/

namespace Sys2Proof.Machine

open Sys2Proof

variable {s : State} {tag : U8} {c : HostCommand} {f : Bytes}

/-- A command that fails R168 tests 2 to 4. -/
abbrev HostCommand.misformed (c : HostCommand) (tag : U8) : Prop := tag = 0 ∨ c.wf = false ∨ c.badCode = true

/-! ### Rows -/

theorem State.hostRow_discarded (h : s.live = false ∨ s.line.framer = .held) : s.hostRow tag c = s := by
  rw [State.hostRow, if_pos]
  obtain h | h := h <;> simp [h]

section
variable (hlive : s.live = true) (hf : s.line.framer ≠ .held)
include hlive hf

theorem State.hostRow_full (hp : 64 ≤ s.line.places) :
    s.hostRow tag c = s.setLine { s.line with held := some (c.frame tag), framer := .held, rx := [], gapRunning := false } := by
  rw [State.hostRow, if_neg (by simp [hlive, hf])]
  exact if_neg (Nat.not_lt.mpr hp)

theorem State.hostRow_taken (hp : s.line.places < 64) : s.hostRow tag c = s.takeCommand ((c.frame tag).take 8) tag c := by
  rw [State.hostRow, if_neg (by simp [hlive, hf])]
  exact if_pos hp

end

/-- A command that fails R168 is refused FORMAT, and nothing else changes. -/
theorem State.takeCommand_misformed {bytes : Bytes} (h : c.misformed tag) :
    s.takeCommand bytes tag c = s.replied c.kind tag (.refused .format) := by
  rw [State.takeCommand, if_pos h]
  exact State.answer_refuse rfl

/-! ### The held command -/

/-- The state once the held command is let go (R172). -/
def State.released (s : State) : State := s.setLine { s.line with held := none, framer := .hunt }

theorem exec_heldCommandDispatch_idle (h : s.line.held = none ∨ s.live = false ∨ 64 ≤ s.line.places) :
    exec .heldCommandDispatch s = .next s := by
  rw [exec, execHeldCommandDispatch]
  split
  · rfl
  · next hheld =>
    rw [if_neg]
    rintro ⟨hlive, hp⟩
    rcases h with h | h | h
    · rw [hheld] at h
      cases h
    · rw [hlive] at h
      cases h
    · exact absurd hp (Nat.not_lt.mpr h)

theorem exec_heldCommandDispatch_delivers (hlive : s.live = true) (hheld : s.line.held = some f) (hp : s.line.places < 64) :
    exec .heldCommandDispatch s = .next (s.released.deliver f) := by
  rw [exec, execHeldCommandDispatch, hheld]
  exact congrArg _ (if_pos ⟨hlive, hp⟩)

/-! ### A whole frame delivered -/

theorem State.deliver_unknown (hk : knownKind (byteAt f 3) = false) : s.deliver f =
    (s.owe.raise .unknownKind .serverLine f).queueReply s.line.queue.length
      { kind := 0xBF, tag := byteAt f 4, body := [3, 17, byteAt f 3] } := by
  rw [State.deliver]
  exact if_pos hk

/-- A frame of a known kind with tag 0, or of a length its kind does not allow, is refused FORMAT (R168). -/
theorem State.deliver_format (hk : knownKind (byteAt f 3) = true)
    (h : byteAt f 4 = 0 ∨ readCommand (byteAt f 3) (frameBody f) = none) :
    s.deliver f = s.replied (byteAt f 3) (byteAt f 4) (.refused .format) := by
  rw [State.deliver, if_neg (by simp [hk])]
  split
  · exact State.answer_refuse rfl
  · next htag =>
    rw [h.resolve_left htag]
    exact State.answer_refuse rfl

/-- The whole frame of a command whose body has its length is taken as the command it is (R168, R176). -/
theorem State.deliver_frame (hw : c.wf = true) : s.deliver (c.frame tag) = s.takeCommand ((c.frame tag).take 8) tag c := by
  have hkind : byteAt (c.frame tag) 3 = c.kind := byteAt_frameOf_kind ..
  have htag : byteAt (c.frame tag) 4 = tag := byteAt_frameOf_tag ..
  have hbody : frameBody (c.frame tag) = c.body := frameBody_frameOf ..
  by_cases h0 : tag = 0
  · rw [State.deliver_format (by rw [hkind]; exact knownKind_kind c) (.inl (htag.trans h0)), State.takeCommand_misformed (.inl h0),
      hkind, htag]
  · rw [State.deliver, hkind, htag, hbody, readCommand_body hw, if_neg (by simp [knownKind_kind]), if_neg h0]

end Sys2Proof.Machine

open Sys2Proof Sys2Proof.Machine

/-- Settles O60: a row by the framer and the places taken; the held command by what its frame spells. -/
theorem hostRowsTaken : Obligations.HostRowsTaken := by
  refine ⟨fun i tag c s hi => ⟨fun h => ?_, fun hlive hf => ⟨fun hp => ?_, fun hp hbad => ?_⟩, fun hlive hheld hp hw _ => ?_⟩,
    fun s => exec_heldCommandDispatch_idle, fun s f hlive hheld hp hk => ?_, fun s f hlive hheld hp hk hbad => ?_⟩
  · rw [exec_hostRowOf hi, State.hostRow_discarded h]
  · rw [exec_hostRowOf hi, State.hostRow_full hlive hf hp]
    rfl
  · rw [exec_hostRowOf hi, State.hostRow_taken hlive hf hp, State.takeCommand_misformed hbad]
  · have hrow : s.released.hostRow tag c = s.released.takeCommand ((c.frame tag).take 8) tag c :=
      State.hostRow_taken (s := s.released) hlive (fun h => by cases h) hp
    rw [exec_heldCommandDispatch_delivers hlive hheld hp, exec_hostRowOf hi, State.deliver_frame hw, ← hrow]
    rfl
  · intro taken hadm
    refine ⟨_, exec_heldCommandDispatch_delivers hlive hheld hp, ?_⟩
    rw [State.deliver_unknown hk, State.raise_faulted (s := s.released.owe) _ _ hadm]
    exact State.queueReply_answeredFrom (s := s) _ (List.prefix_append ..)
  · rw [exec_heldCommandDispatch_delivers hlive hheld hp, State.deliver_format hk hbad]
    rfl

end

section
/-! The law of R153 along what an event is built from. A raise alone reaches Fault Capture: it captures a first fault with the flag
clear, or sets the flag of a class whose record is held. A branch that raises nothing leaves Fault Capture, so the hypothesis itself
closes it. -/

namespace Sys2Proof.Machine

open Sys2Proof

/-! ### Fault Capture itself -/

/-- After power-on no class holds a record or a flag (R152). -/
theorem FaultCapture.start_formed : FaultCapture.start.Formed := fun c hc => by
  rw [FaultCapture.start_classState] at hc
  cases hc

theorem FaultCapture.setClass_classState_ne (f : FaultCapture) {c c' : FaultClass} (x : ClassState) (h : c' ≠ c) :
    (f.setClass c x).classState c' = f.classState c' := by
  revert h
  cases c <;> cases c' <;> simp [FaultCapture.setClass, FaultCapture.classState]

/-- A class may be given any content that keeps the law itself. -/
theorem FaultCapture.Formed.setClass {f : FaultCapture} {c : FaultClass} {x : ClassState} (h : f.Formed)
    (hx : x.further = true → x.record.isSome = true) : (f.setClass c x).Formed := by
  intro c'
  by_cases hc : c' = c
  · rw [hc, f.setClass_classState c x]
    exact hx
  · rw [f.setClass_classState_ne x hc]
    exact h c'

/-- The law speaks of what the classes hold, not of the masks and classes of the codes nor of the waiting STORE WRITE FAIL. -/
theorem FaultCapture.Formed.of_classState {f g : FaultCapture} (h : f.Formed) (hg : ∀ c, g.classState c = f.classState c) :
    g.Formed := fun c => by
  rw [hg]
  exact h c

/-- A code's mask and class may change (R158). -/
theorem FaultCapture.Formed.setRule {f : FaultCapture} {c : FaultCode} {r : CodeRule} (h : f.Formed) : (f.setRule c r).Formed :=
  h.of_classState fun k => by cases k <;> rfl

/-- A STORE WRITE FAIL may come to wait or cease to (R164). -/
theorem FaultCapture.Formed.setWaits {f : FaultCapture} {b : Bool} (h : f.Formed) : ({ f with writeFailWaits := b }).Formed :=
  h.of_classState fun k => by cases k <;> rfl

variable {s : State}

/-! ### Raises, notices, replies and the store -/

@[simp] theorem State.severeReport_faults (s : State) (cls : FaultClass) : (s.severeReport cls).faults = s.faults := by
  unfold State.severeReport
  split <;> rfl

theorem raiseWithin_faultsFormed {n : Nat} {code : FaultCode} {source : FaultSource} {bytes : Bytes} (h : s.faults.Formed) :
    (raiseWithin n code source bytes s).faults.Formed := by
  induction n generalizing code source bytes s with
  | zero => exact h
  | succ n ih =>
    cases hm : (s.faults.rule code).masked with
    | true => rwa [raiseWithin_masked n source bytes hm]
    | false =>
      cases hr : (s.faults.classState (s.faults.rule code).cls).record with
      | some r =>
        rw [raiseWithin_held n source bytes hm hr, State.severeReport_faults]
        exact h.setClass fun _ => rfl
      | none =>
        have hcaptured : (s.captured code source bytes).faults.Formed := h.setClass fun hx => by cases hx
        rw [raiseWithin_captures n source bytes ⟨hm, hr⟩, State.severeReport_faults]
        split
        · split
          · exact hcaptured
          · exact ih hcaptured
        · exact hcaptured

theorem State.raise_faultsFormed {code : FaultCode} {source : FaultSource} {bytes : Bytes} (h : s.faults.Formed) :
    (s.raise code source bytes).faults.Formed := raiseWithin_faultsFormed h

theorem State.offer_faultsFormed {f : Frame} (h : s.faults.Formed) : (s.offer f).faults.Formed := by
  unfold State.offer
  split
  · exact h
  · exact State.raise_faultsFormed h

@[simp] theorem State.queueReply_faults (s : State) (before : Nat) (f : Frame) : (s.queueReply before f).faults = s.faults := by
  unfold State.queueReply
  dsimp only
  split <;> rfl

/-- A command keeps the law where its owner does (R169). -/
theorem State.answer_faultsFormed {kind tag : U8} {d : State → State × Reply} (hd : (d s.owe).1.faults.Formed) :
    (s.answer kind tag d).faults.Formed := by
  rw [State.answer, State.queueReply_faults]
  exact hd

@[simp] theorem State.pumpStore_faults (s : State) : s.pumpStore.faults = s.faults := by rw [State.pumpStore_frame]

@[simp] theorem State.placeRequest_faults (s : State) (r : StoreRequest) : (s.placeRequest r).faults = s.faults :=
  State.pumpStore_faults _

/-! ### The Check Table and Uplink Control -/

theorem State.settleCheck_faultsFormed {n : Nat} (h : s.faults.Formed) : (s.settleCheck n).faults.Formed := by
  unfold State.settleCheck
  split
  · exact h
  · dsimp only
    split
    · exact State.offer_faultsFormed h
    · exact h

theorem State.releaseHold_faultsFormed {check share r : Nat} (h : s.faults.Formed) :
    (s.releaseHold check share r).faults.Formed := by
  unfold State.releaseHold
  split <;> exact h

theorem State.applyParked_faultsFormed {c : Check} {p : Parked} (h : s.faults.Formed) : (s.applyParked c p).faults.Formed := by
  unfold State.applyParked
  dsimp only
  split <;> exact State.offer_faultsFormed h

theorem State.departure_faultsFormed {n : Nat} (h : s.faults.Formed) : (s.departure n).faults.Formed := by
  unfold State.departure
  split
  · exact h
  · dsimp only
    split
    · exact h
    · split
      · exact State.settleCheck_faultsFormed (State.applyParked_faultsFormed h)
      · exact State.settleCheck_faultsFormed h

theorem takeChange_faultsFormed {n : Nat} {tag : U8} {ch : Change} (h : s.faults.Formed) :
    (takeChange n tag ch s).1.faults.Formed := by
  unfold takeChange
  split
  · exact h
  · split
    · exact h
    · split
      · exact h
      · split <;> exact State.settleCheck_faultsFormed h

theorem State.countExpiry_faultsFormed (h : s.faults.Formed) : s.countExpiry.faults.Formed := by
  unfold State.countExpiry
  dsimp only
  split
  · exact State.raise_faultsFormed h
  · exact h

theorem forwardWithin_faultsFormed {n : Nat} (h : s.faults.Formed) : (forwardWithin n s).faults.Formed := by
  induction n generalizing s with
  | zero => exact h
  | succ n ih =>
    rw [forwardWithin]
    split
    · split
      · exact ih (s := State.setUplink _ _) (State.offer_faultsFormed h)
      · exact h
    · exact h

theorem State.forwardEntries_faultsFormed (h : s.faults.Formed) : s.forwardEntries.faults.Formed := forwardWithin_faultsFormed h

/-! ### The Tender Pool -/

theorem State.leavePool_faultsFormed {t : Tender} {reason : EndReason} (h : s.faults.Formed) :
    (s.leavePool t reason).faults.Formed := State.departure_faultsFormed h

theorem State.postToCheck_faultsFormed {t : Tender} (h : s.faults.Formed) : (s.postToCheck t).faults.Formed := by
  unfold State.postToCheck
  split
  · exact h
  · dsimp only
    split
    · exact State.offer_faultsFormed (State.offer_faultsFormed h)
    · exact State.offer_faultsFormed h

theorem postWithin_faultsFormed {n check : Nat} (h : s.faults.Formed) : (postWithin n check s).faults.Formed := by
  induction n generalizing s with
  | zero => exact h
  | succ n ih =>
    rw [postWithin]
    split
    · split
      · exact ih (State.leavePool_faultsFormed (s := State.putSlot _ _ _) (State.postToCheck_faultsFormed h))
      · exact h
    · exact h

theorem State.postReady_faultsFormed {check : Nat} (h : s.faults.Formed) : (s.postReady check).faults.Formed :=
  postWithin_faultsFormed h

/-- A tender's end keeps the law where the records and messages of its rule do (R63). -/
theorem State.endTender_faultsFormed {t : Tender} {reason : EndReason} {messages : State → State} (h : s.faults.Formed)
    (hm : ∀ u : State, u.faults.Formed → (messages u).faults.Formed) : (s.endTender t reason messages).faults.Formed := by
  have hleft : ((messages (s.releaseHold t.check t.share t.hold)).leavePool t reason).faults.Formed :=
    State.leavePool_faultsFormed (hm _ (State.releaseHold_faultsFormed h))
  unfold State.endTender
  dsimp only
  split
  · exact State.postReady_faultsFormed hleft
  · exact hleft

theorem State.decline_faultsFormed {t : Tender} {reason : U8} {host : Bool} (h : s.faults.Formed) :
    (s.decline t reason host).faults.Formed := State.endTender_faultsFormed h fun _ => id

theorem State.enterPool_faultsFormed {t : Tender} {c : Check} (h : s.faults.Formed) : (s.enterPool t c).faults.Formed :=
  State.settleCheck_faultsFormed (s := s.putCheck _) h

theorem State.approveOffline_faultsFormed {t : Tender} (h : s.faults.Formed) : (s.approveOffline t).faults.Formed := by
  rwa [State.approveOffline, State.placeRequest_faults]

theorem State.takePresent_faultsFormed {i : Slot} {p : Presentment} (h : s.faults.Formed) : (s.takePresent i p).faults.Formed := by
  have henter : ∀ t c, (s.enterPool t c).faults.Formed := fun _ _ => State.enterPool_faultsFormed h
  unfold State.takePresent
  split
  · exact h
  · dsimp only
    split
    · exact State.offer_faultsFormed (henter _ _)
    · unfold State.issueOffline
      split
      · exact State.decline_faultsFormed (henter _ _)
      · exact State.approveOffline_faultsFormed (henter _ _)

@[simp] theorem State.takeCancel_faults (s : State) (i : Slot) (tag : U8) : (s.takeCancel i tag).faults = s.faults := by
  unfold State.takeCancel
  split
  · rfl
  · split
    · rfl
    · split <;> rfl

theorem State.overApproval_faultsFormed {t : Tender} {approved : Nat} {bytes : Bytes} (h : s.faults.Formed) :
    (s.overApproval t approved bytes).faults.Formed := by
  unfold State.overApproval
  split
  · exact State.raise_faultsFormed h
  · exact h

theorem State.takeApproval_faultsFormed {t : Tender} {approved : Nat} {code bytes : Bytes} (h : s.faults.Formed) :
    (s.takeApproval t approved code bytes).faults.Formed :=
  State.postReady_faultsFormed (s := State.placeOutcome _ _ _)
    (State.releaseHold_faultsFormed (s := State.putTender _ _) (State.overApproval_faultsFormed h))

theorem State.takeCancelled_faultsFormed {t : Tender} {approved : Nat} {code bytes : Bytes} (h : s.faults.Formed) :
    (s.takeCancelled t approved code bytes).faults.Formed := by
  unfold State.takeCancelled
  refine State.endTender_faultsFormed h fun u hu => ?_
  show (if 0 < approved then _ else u).faults.Formed
  split
  · exact State.offer_faultsFormed (s := State.appendRecord _ _) (State.overApproval_faultsFormed hu)
  · exact hu

theorem State.takeResult_faultsFormed {t : Tender} {approved : Nat} {code bytes : Bytes} {reason : U8} (h : s.faults.Formed) :
    (s.takeResult t approved code bytes reason).faults.Formed := by
  unfold State.takeResult
  split
  · exact State.takeCancelled_faultsFormed h
  · split
    · exact State.takeApproval_faultsFormed h
    · exact State.decline_faultsFormed h

theorem authResult_faultsFormed {bytes : Bytes} {tender : U16} {outcome : U8} {approved : U32} {code : Bytes} {reason : U8}
    (h : s.faults.Formed) : (authResult bytes tender outcome approved code reason s).1.faults.Formed := by
  unfold authResult
  split
  · exact h
  · split
    · exact h
    · split
      · split
        · exact State.takeResult_faultsFormed h
        · exact State.raise_faultsFormed h
      · split <;> exact State.raise_faultsFormed h

theorem State.expireTender_faultsFormed {t : Tender} (h : s.faults.Formed) : (s.expireTender t).faults.Formed :=
  State.endTender_faultsFormed h fun u hu => State.countExpiry_faultsFormed (State.raise_faultsFormed
    (s := State.placeOutcome _ _ _) (State.offer_faultsFormed (s := u.appendRecord _) hu))

end Sys2Proof.Machine
end

section
/-! The law of R153 along every command and every event. The resets and power put Fault Capture at its start values; every other row
reaches it by a raise, or is one of the FAULT commands. -/

namespace Sys2Proof.Machine

open Sys2Proof

variable {s t : State}

/-! ### Uplink Control's commands -/

theorem uplinkState_faultsFormed {state : U8} (h : s.faults.Formed) : (uplinkState state s).1.faults.Formed := by
  unfold uplinkState
  split
  · dsimp only
    split
    · exact State.forwardEntries_faultsFormed (s := State.changeUplink _ _ _ _) h
    · exact h
  · split
    · dsimp only
      split <;> exact h
    · exact h

theorem forwardResult_faultsFormed {bytes : Bytes} {number : U32} {outcome reason : U8} (h : s.faults.Formed) :
    (forwardResult bytes number outcome reason s).1.faults.Formed := by
  unfold forwardResult
  split
  · exact h
  · split
    · exact State.raise_faultsFormed h
    · have hfreed : ∀ u, (s.setUplink u).pumpStore.faults.Formed := fun u => by rwa [State.pumpStore_faults]
      apply State.forwardEntries_faultsFormed
      split
      · exact hfreed _
      · exact State.raise_faultsFormed (State.offer_faultsFormed (s := State.appendRecord _ _) (hfreed _))

/-! ### The radio side -/

theorem State.movePresence_faultsFormed {i : Slot} {new : Presence} {id : Option Bytes} (h : s.faults.Formed) :
    (s.movePresence i new id).faults.Formed := by
  unfold State.movePresence
  dsimp only
  split
  · exact h
  · split
    · exact State.offer_faultsFormed h
    · exact h

theorem State.endProbe_faultsFormed {early : Bool} {i : Slot} (h : s.faults.Formed) : (s.endProbe early i).faults.Formed := by
  unfold State.endProbe
  split
  · exact State.offer_faultsFormed h
  · exact h

theorem State.boundaryAt_faultsFormed {i : Slot} (h : s.faults.Formed) : (s.boundaryAt i).faults.Formed := by
  unfold State.boundaryAt
  split
  · exact State.endProbe_faultsFormed h
  · exact h

theorem State.boundary_faultsFormed (h : s.faults.Formed) : s.boundary.faults.Formed := by
  unfold State.boundary
  split
  · exact h
  · exact List.foldlRecOn (motive := fun u : State => u.faults.Formed) _ _ h fun _ hu _ _ => State.boundaryAt_faultsFormed hu

theorem State.handleMessage_faultsFormed {i : Slot} {m : UplinkMessage} (h : s.faults.Formed) :
    (s.handleMessage i m).faults.Formed := by
  cases m with
  | wake id =>
    have hpresent : ∀ e, ((s.putSlot i e).movePresence i .present (some id)).faults.Formed :=
      fun _ => State.movePresence_faultsFormed h
    rw [State.handleMessage, State.takeWake]
    dsimp only
    split <;> exact hpresent _
  | pick =>
    rw [State.handleMessage, State.takePick]
    repeat' split
    all_goals exact h
  | present =>
    rw [State.handleMessage]
    split
    · unfold State.handPresent
      split
      · exact State.takePresent_faultsFormed h
      · exact State.takePresent_faultsFormed h
      all_goals exact h
    · exact h
  | cancel =>
    rw [State.handleMessage, State.handCancel]
    split
    · rwa [State.takeCancel_faults]
    all_goals exact h
  | ack =>
    rw [State.handleMessage, State.takeAck]
    split <;> exact h
  | echo => exact h

theorem State.takeMessage_faultsFormed {i : Slot} {m : UplinkMessage} (h : s.faults.Formed) :
    (s.takeMessage i m).faults.Formed := by
  have hturn : (s.useEchoTurn i m).faults.Formed := by cases m <;> exact h
  apply State.handleMessage_faultsFormed
  unfold State.foundAgain
  split
  · exact State.movePresence_faultsFormed hturn
  · exact hturn

theorem State.badFrame_faultsFormed {i : Slot} {frame : Bytes} (h : s.faults.Formed) : (s.badFrame i frame).faults.Formed :=
  State.raise_faultsFormed (s := s.putSlot _ _) h

theorem State.uplinkTurn_faultsFormed {i : Slot} {m : UplinkMessage} (h : s.faults.Formed) : (s.uplinkTurn i m).faults.Formed := by
  unfold State.uplinkTurn
  split
  · exact h
  · split
    · exact State.takeMessage_faultsFormed h
    · exact State.badFrame_faultsFormed h

theorem execBadUplinkFrame_faultsFormed {i : Slot} {frame : Bytes} (h : s.faults.Formed)
    (e : execBadUplinkFrame i frame s = .next t) : t.faults.Formed := by
  cases e
  split
  · exact h
  · split
    · exact State.takeMessage_faultsFormed h
    · exact State.badFrame_faultsFormed h

theorem State.downlinkTurn_faultsFormed {i : Slot} (h : s.faults.Formed) : (s.downlinkTurn i).faults.Formed := by
  unfold State.downlinkTurn
  split
  · exact h
  · split <;> exact h

theorem State.echoTurn_faultsFormed {i : Slot} (h : s.faults.Formed) : (s.echoTurn i).faults.Formed := by
  unfold State.echoTurn
  split <;> exact h

theorem State.presenceReport_faultsFormed {i : Slot} {inRange : Bool} (h : s.faults.Formed) :
    (s.presenceReport i inRange).faults.Formed := by
  unfold State.presenceReport
  split
  · exact h
  · split
    · exact State.movePresence_faultsFormed (State.endProbe_faultsFormed h)
    · exact State.movePresence_faultsFormed h
    all_goals exact h

theorem State.fillHalf_faultsFormed (h : s.faults.Formed) : s.fillHalf.faults.Formed := by
  have hhalf : ∀ first r r', (((halfSlots first).foldl State.fillSlot (s.setRadio r)).setRadio r').faults.Formed := by
    intro first r r'
    rw [(fillFold_spec (halfSlots first) (halfSlots_nodup first) (s.setRadio r)).1]
    exact h
  unfold State.fillHalf
  split
  · exact h
  · dsimp only
    split
    · exact h
    · exact hhalf 0 _ _
    · exact State.offer_faultsFormed (hhalf 32 _ _)

/-! ### The Journal, Run Control and Fault Capture -/

@[simp] theorem State.cutSnapshot_faults (s : State) (x : Snapshot) : (s.cutSnapshot x).faults = s.faults := by
  unfold State.cutSnapshot
  dsimp only
  split <;> rfl

theorem execSnapLineFallingEdge_faultsFormed (h : s.faults.Formed) (e : execSnapLineFallingEdge s = .next t) : t.faults.Formed := by
  cases e
  split
  · exact State.offer_faultsFormed (by rwa [State.cutSnapshot_faults])
  · exact h

theorem State.startUpEnds_faultsFormed (h : s.faults.Formed) : s.startUpEnds.faults.Formed := by
  unfold State.startUpEnds
  split
  · exact State.raise_faultsFormed h.setWaits
  · exact h

theorem execBankTest_faultsFormed {pass : Bool} (h : s.faults.Formed) (e : execBankTest pass s = .next t) : t.faults.Formed := by
  cases e
  split
  · exact h
  · split
    · exact h
    · apply State.startUpEnds_faultsFormed
      split
      · exact h
      · exact State.raise_faultsFormed h

theorem setRun_faultsFormed {bytes : Bytes} {state : U8} (h : s.faults.Formed) : (setRun bytes state s).1.faults.Formed := by
  unfold setRun
  split
  · exact h
  · split
    · exact h
    · split
      · unfold leaveHalted
        split
        · exact h
        · split
          · exact h
          · split
            · exact State.raise_faultsFormed h
            · exact h
      · split
        · unfold enterHalted
          split
          · exact h
          · exact List.foldlRecOn (motive := fun u : State => u.faults.Formed) _ _ h fun _ hu _ _ => State.endProbe_faultsFormed hu
        · exact h

theorem offerWithin_faultsFormed {n : Nat} (h : s.faults.Formed) : (offerWithin n s).faults.Formed := by
  induction n generalizing s with
  | zero => exact h
  | succ n ih =>
    rw [offerWithin]
    split
    · exact h
    · split
      · exact ih (State.offer_faultsFormed h)
      · exact h

theorem shiftCloseCommand_faultsFormed {tag : U8} (h : s.faults.Formed) : (shiftCloseCommand tag s).faults.Formed := by
  have hclosed : (shiftClose s.owe).1.faults.Formed := by
    unfold shiftClose
    split <;> exact h
  unfold shiftCloseCommand
  dsimp only
  split
  · exact offerWithin_faultsFormed (by rwa [State.queueReply_faults])
  · rwa [State.queueReply_faults]

/-- FAULT CLEAR leaves a class without record and without flag (R161). -/
theorem faultClear_faultsFormed {cls : U8} (h : s.faults.Formed) : (faultClear cls s).1.faults.Formed := by
  unfold faultClear
  split
  · exact h
  · exact h.setClass fun hx => by cases hx

theorem faultMask_faultsFormed {code mask cls : U8} (h : s.faults.Formed) : (faultMask code mask cls s).1.faults.Formed := by
  unfold faultMask
  split
  · split
    · exact h.setRule
    · exact h
  · exact h

theorem faultInject_faultsFormed {bytes : Bytes} {code : U8} (h : s.faults.Formed) :
    (faultInject bytes code s).1.faults.Formed := by
  unfold faultInject
  split
  · exact h
  · split
    · exact h
    · exact State.raise_faultsFormed h

/-! ### Resets and power -/

@[simp] theorem State.lineReset_faults (s : State) (cause : ResetCause) : (s.lineReset cause).faults = .start :=
  State.pumpStore_faults _

theorem resetCommand_faults (s : State) (tag : U8) : (resetCommand tag s).faults = .start := by
  have hreset : (s.commandReset tag).faults = .start := s.lineReset_faults .command
  unfold resetCommand
  dsimp only
  split
  · split <;> exact hreset
  · exact hreset

theorem execResetPinFall_faultsFormed (h : s.faults.Formed) (e : execResetPinFall s = .next t) : t.faults.Formed := by
  cases e
  split
  · exact h
  · dsimp only
    split
    · rw [State.setHold_faults, State.lineReset_faults]
      exact FaultCapture.start_formed
    · exact h

theorem execResetPinRise_faultsFormed (h : s.faults.Formed) (e : execResetPinRise s = .next t) : t.faults.Formed := by
  cases e
  dsimp only
  split <;> exact h

theorem raiseEntryBad_faultsFormed {n : Nat} (h : s.faults.Formed) : (raiseEntryBad n s).faults.Formed := by
  induction n generalizing s with
  | zero => exact h
  | succ n ih => exact ih (State.raise_faultsFormed h)

theorem State.powerOn_faultsFormed (s : State) : s.powerOn.faults.Formed := by
  have hread : (raiseEntryBad s.store.badUnits s.reloaded).faults.Formed := raiseEntryBad_faultsFormed FaultCapture.start_formed
  unfold State.powerOn
  dsimp only
  split
  · rwa [State.placeRequest_faults]
  · exact hread

theorem execLossOfPower_faultsFormed {cut : PowerCut} (h : s.faults.Formed) (e : execLossOfPower cut s = .next t) :
    t.faults.Formed := by
  cases e
  split
  · exact h
  · exact FaultCapture.start_formed

/-! ### The ends of store writes -/

theorem State.startWriteFault_faultsFormed (h : s.faults.Formed) : s.startWriteFault.faults.Formed := by
  unfold State.startWriteFault
  split
  · exact h.setWaits
  · exact State.raise_faultsFormed h

theorem State.forceSetting_faultsFormed {n v : Nat} (h : s.faults.Formed) : (s.forceSetting n v).faults.Formed := by
  unfold State.forceSetting
  dsimp only
  split
  · apply State.forwardEntries_faultsFormed
    split <;> exact h
  · split <;> exact h

theorem State.appendDone_faultsFormed {number : Nat} (h : s.faults.Formed) : (s.appendDone number).faults.Formed := by
  unfold State.appendDone
  split
  · apply State.forwardEntries_faultsFormed
    dsimp only
    split
    · exact State.postReady_faultsFormed (s := State.placeOutcome _ _ _) h
    · exact h
  · exact h

theorem State.appendLost_faultsFormed {number : Nat} (h : s.faults.Formed) : (s.appendLost number).faults.Formed := by
  unfold State.appendLost
  split
  · dsimp only
    split
    · exact State.decline_faultsFormed h
    · exact h
  · exact h

theorem execSettingWriteComplete_faultsFormed (h : s.faults.Formed) (e : execSettingWriteComplete s = .next t) :
    t.faults.Formed := by
  cases e
  split
  · split
    · rw [State.pumpStore_faults, State.queueReply_faults]
      exact State.forceSetting_faultsFormed h
    · rwa [State.pumpStore_faults]
    all_goals exact h
  · exact h

theorem execSettingWriteFail_faultsFormed (h : s.faults.Formed) (e : execSettingWriteFail s = .next t) : t.faults.Formed := by
  cases e
  split
  · split
    · rw [State.pumpStore_faults, State.queueReply_faults]
      exact State.raise_faultsFormed h
    · rw [State.pumpStore_faults]
      exact State.startWriteFault_faultsFormed h
    all_goals exact h
  · exact h

theorem execForwardAppendComplete_faultsFormed (h : s.faults.Formed) (e : execForwardAppendComplete s = .next t) :
    t.faults.Formed := by
  cases e
  split
  · split
    · rw [State.pumpStore_faults]
      exact State.appendDone_faultsFormed h
    · exact h
  · exact h

theorem execForwardAppendFail_faultsFormed (h : s.faults.Formed) (e : execForwardAppendFail s = .next t) : t.faults.Formed := by
  cases e
  split
  · next w _ _ =>
    have hfails : (s.appendFails w).faults.Formed := by
      unfold State.appendFails
      split <;> exact h
    split
    · rw [State.pumpStore_faults]
      exact State.raise_faultsFormed (State.appendLost_faultsFormed hfails)
    all_goals exact h
  · exact h

theorem execForwardFreeComplete_faultsFormed (h : s.faults.Formed) (e : execForwardFreeComplete s = .next t) : t.faults.Formed := by
  cases e
  split
  · split
    · rwa [State.pumpStore_faults]
    all_goals exact h
  · exact h

theorem execForwardFreeFail_faultsFormed (h : s.faults.Formed) (e : execForwardFreeFail s = .next t) : t.faults.Formed := by
  cases e
  split
  · split
    · rw [State.pumpStore_faults]
      exact State.raise_faultsFormed h
    all_goals exact h
  · exact h

/-! ### The server line -/

/-- Queries, and the owners that touch blocks of their own alone, leave Fault Capture; the other commands keep the law as their
owners do (R169, R174). -/
theorem runHost_faultsFormed {bytes : Bytes} {tag : U8} {c : HostCommand} (h : s.faults.Formed) :
    (runHost bytes tag c s).faults.Formed := by
  cases c with
  | openCheck =>
    apply State.answer_faultsFormed
    unfold openCheck
    split
    · exact h
    · split
      · exact h
      · split
        · split
          · exact h
          · split
            · exact h
            · split
              · exact h
              · exact State.settleCheck_faultsFormed h
        · exact h
  | addItem | voidItem | setCovers =>
    apply State.answer_faultsFormed
    simp only [addItem, voidItem, setCovers]
    split
    · exact h
    · split
      · exact h
      · exact takeChange_faultsFormed h
  | setSplit =>
    apply State.answer_faultsFormed
    unfold setSplit
    split
    · exact h
    · split
      · exact h
      · split
        · exact h
        · exact takeChange_faultsFormed h
  | authResult => exact State.answer_faultsFormed (authResult_faultsFormed h)
  | uplinkState => exact State.answer_faultsFormed (uplinkState_faultsFormed h)
  | forwardResult => exact State.answer_faultsFormed (forwardResult_faultsFormed h)
  | forwardRestart => exact State.answer_faultsFormed (State.forwardEntries_faultsFormed h)
  | setRun => exact State.answer_faultsFormed (setRun_faultsFormed h)
  | settingWrite =>
    rw [runHost, settingWriteCommand]
    split
    · rwa [State.queueReply_faults]
    · rwa [State.placeRequest_faults]
  | reset =>
    rw [runHost, resetCommand_faults]
    exact FaultCapture.start_formed
  | faultClear => exact State.answer_faultsFormed (faultClear_faultsFormed h)
  | faultMask => exact State.answer_faultsFormed (faultMask_faultsFormed h)
  | faultInject => exact State.answer_faultsFormed (faultInject_faultsFormed h)
  | shiftClose => exact shiftCloseCommand_faultsFormed h
  | journalStatus | runQuery | faultRead => exact State.answer_faultsFormed h
  | snap =>
    apply State.answer_faultsFormed
    unfold snap
    split
    · exact h
    · split
      · repeat' split
        all_goals exact h
      · rwa [State.cutSnapshot_faults]
  | checkQuery | closeCheck | voidCheck | tenderQuery | forwardQuery | routeSlot | routeFill | probeSlot | slotQuery | dumpRead
    | intakeHold | timeSet | settingRead | shiftQuery =>
    apply State.answer_faultsFormed
    simp only [checkQuery, closeCheck, voidCheck, tenderQuery, forwardQuery, routeSlot, routeFill, probeSlot, slotQuery, dumpRead,
      intakeHold, timeSet, settingRead, shiftQuery]
    repeat' split
    all_goals exact h

theorem State.takeCommand_faultsFormed {bytes : Bytes} {tag : U8} {c : HostCommand} (h : s.faults.Formed) :
    (s.takeCommand bytes tag c).faults.Formed := by
  unfold State.takeCommand
  split
  · exact State.answer_faultsFormed h
  · exact runHost_faultsFormed h

theorem State.hostRow_faultsFormed {tag : U8} {c : HostCommand} (h : s.faults.Formed) : (s.hostRow tag c).faults.Formed := by
  unfold State.hostRow
  split
  · exact h
  · split
    · exact State.takeCommand_faultsFormed h
    · exact h

theorem State.deliver_faultsFormed {f : Bytes} (h : s.faults.Formed) : (s.deliver f).faults.Formed := by
  unfold State.deliver
  dsimp only
  split
  · rw [State.queueReply_faults]
    exact State.raise_faultsFormed h
  · split
    · exact State.answer_faultsFormed h
    · split
      · exact State.answer_faultsFormed h
      · exact State.takeCommand_faultsFormed h

/-- A whole frame is delivered or held where its CRC is good, and raises HOST FRAME CRC where it is not (R167, R172). -/
theorem State.completeFrame_faultsFormed {f : Bytes} (h : s.faults.Formed) : (s.completeFrame f).faults.Formed := by
  unfold State.completeFrame
  dsimp only
  split
  · unfold State.takeFrame
    split
    · exact State.deliver_faultsFormed h
    · exact h
  · exact State.raise_faultsFormed h

theorem execServerByte_faultsFormed {byte : U8} (h : s.faults.Formed) (e : execServerByte byte s = .next t) : t.faults.Formed := by
  cases e
  split
  · exact h
  · split
    · split <;> exact h
    · unfold State.lengthByte
      dsimp only
      split
      · exact h
      · split
        · exact h
        · exact State.raise_faultsFormed h
    · unfold State.collectByte
      dsimp only
      split
      · exact h
      · exact State.completeFrame_faultsFormed h
    · exact h

theorem execGapTimerExpiry_faultsFormed (h : s.faults.Formed) (e : execGapTimerExpiry s = .next t) : t.faults.Formed := by
  cases e
  split
  · exact State.raise_faultsFormed h
  · exact h

theorem execHeldCommandDispatch_faultsFormed (h : s.faults.Formed) (e : execHeldCommandDispatch s = .next t) : t.faults.Formed := by
  cases e
  split
  · exact h
  · split
    · exact State.deliver_faultsFormed h
    · exact h

theorem execFrameSent_faultsFormed (h : s.faults.Formed) (e : execFrameSent s = .next t) : t.faults.Formed := by
  cases e
  split
  · exact offerWithin_faultsFormed h
  · exact h

/-! ### Every instruction -/

theorem execAuthExpiry_faultsFormed {tender : U16} (h : s.faults.Formed) (e : execAuthExpiry tender s = .next t) :
    t.faults.Formed := by
  unfold execAuthExpiry at e
  split at e
  · cases e
    split
    · exact State.expireTender_faultsFormed h
    · exact h
  · cases e
    exact h

/-- A command of the server line keeps the law through its row; each event keeps it by its own meaning. -/
theorem exec_faultsFormed {i : Instr} (h : s.faults.Formed) (e : exec i s = .next t) : t.faults.Formed := by
  cases hrow : hostRowOf i with
  | some row =>
    rw [exec_hostRowOf hrow] at e
    cases e
    exact State.hostRow_faultsFormed h
  | none =>
    cases i with
    | powerOn => cases e; exact s.powerOn_faultsFormed
    | lossOfPower => exact execLossOfPower_faultsFormed h e
    | resetPinFall => exact execResetPinFall_faultsFormed h e
    | resetPinRise => exact execResetPinRise_faultsFormed h e
    | bankTest => exact execBankTest_faultsFormed h e
    | clockStep => cases e; split <;> exact h
    | authExpiry => exact execAuthExpiry_faultsFormed h e
    | superframeBoundary => cases e; exact State.boundary_faultsFormed h
    | fillHalf => cases e; exact State.fillHalf_faultsFormed h
    | downlinkTurn => cases e; exact State.downlinkTurn_faultsFormed h
    | echoTurn => cases e; exact State.echoTurn_faultsFormed h
    | presenceReport => cases e; exact State.presenceReport_faultsFormed h
    | wake | pick | present | cancel | ack | echo => cases e; exact State.uplinkTurn_faultsFormed h
    | badUplinkFrame => exact execBadUplinkFrame_faultsFormed h e
    | snapLineFallingEdge => exact execSnapLineFallingEdge_faultsFormed h e
    | serverByte => exact execServerByte_faultsFormed h e
    | gapTimerExpiry => exact execGapTimerExpiry_faultsFormed h e
    | heldCommandDispatch => exact execHeldCommandDispatch_faultsFormed h e
    | frameSent => exact execFrameSent_faultsFormed h e
    | settingWriteComplete => exact execSettingWriteComplete_faultsFormed h e
    | settingWriteFail => exact execSettingWriteFail_faultsFormed h e
    | forwardAppendComplete => exact execForwardAppendComplete_faultsFormed h e
    | forwardAppendFail => exact execForwardAppendFail_faultsFormed h e
    | forwardFreeComplete => exact execForwardFreeComplete_faultsFormed h e
    | forwardFreeFail => exact execForwardFreeFail_faultsFormed h e
    | _ => cases hrow

end Sys2Proof.Machine

open Sys2Proof Sys2Proof.Machine

/-- Settles O4: an idle step changes nothing, and every instruction keeps the law; a raise sets a flag only beside a held record. -/
theorem stepKeepsFaultLaw : Obligations.StepKeepsFaultLaw := by
  intro s t h e
  unfold step at e
  split at e
  · cases e
    exact h
  · next rest _ => exact exec_faultsFormed (s := s.setPending rest) h e

end

section
/-! FAULT CLEAR and FAULT MASK (R158, R161). -/

namespace Sys2Proof.Machine

open Sys2Proof

theorem FaultClass.ofCode_code (c : FaultClass) : FaultClass.ofCode c.code = some c := by
  cases c <;> rfl

/-- The classes have the codes 1 to 3 alone (R175). -/
theorem FaultClass.ofCode_none {b : U8} (h : b = 0 ∨ 3 < b.toNat) : FaultClass.ofCode b = none := by
  have h1 : b ≠ 1 := by bv_omega
  have h2 : b ≠ 2 := by bv_omega
  have h3 : b ≠ 3 := by bv_omega
  rw [FaultClass.ofCode, if_neg h1, if_neg h2, if_neg h3]

variable {s : State}

theorem faultClear_class (c : FaultClass) : faultClear c.code s =
    (s.setFaults (s.faults.setClass c { record := none, further := false }), .accepted ((s.faults.classState c).bytes c)) := by
  rw [faultClear, FaultClass.ofCode_code]

theorem faultClear_range {b : U8} (h : b = 0 ∨ 3 < b.toNat) : faultClear b s = s.refuse .range := by
  rw [faultClear, FaultClass.ofCode_none h]

theorem faultMask_code (c : FaultCode) (k : FaultClass) {mask : U8} (h : mask.toNat ≤ 1) : faultMask c.number mask k.code s =
    (s.setFaults (s.faults.setRule c { masked := mask == 1, cls := k }), .accepted [c.number, mask, k.code]) := by
  rw [faultMask, FaultCode.ofNumber_number, FaultClass.ofCode_code]
  exact if_pos (U8.toNat_le_one.mp h)

/-- FAULT MASK is refused where the code, the mask or the class is out of its range (R158). -/
theorem faultMask_range {b mask k : U8} (h : b = 0 ∨ 18 < b.toNat ∨ 1 < mask.toNat ∨ k = 0 ∨ 3 < k.toNat) :
    faultMask b mask k s = s.refuse .range := by
  unfold faultMask
  split
  · next c cls hcode hcls =>
    have hb : ¬(b = 0 ∨ 18 < b.toNat) := fun hb => by cases hcode.symm.trans (FaultCode.ofNumber_none hb)
    have hk : ¬(k = 0 ∨ 3 < k.toNat) := fun hk => by cases hcls.symm.trans (FaultClass.ofCode_none hk)
    have hmask : 1 < mask.toNat := by tauto
    exact if_neg fun hm => Nat.not_le.mpr hmask (U8.toNat_le_one.mpr hm)
  · rfl

end Sys2Proof.Machine

open Sys2Proof Sys2Proof.Machine

/-- Settles O53: each command passes its range test or not, and its owner changes the class or the code it names. -/
theorem faultCommandsTaken : Obligations.FaultCommandsTaken := by
  intro s tag ht
  refine ⟨fun c => ?_, fun b hb => ?_, fun c k mask hm => ?_, fun b mask k h => ?_⟩
  · exact exec_answered_changed (.faultClear c.code) _ rfl ht rfl rfl rfl (faultClear_class (s := s.owe) c) rfl
  · exact exec_answered (.faultClear b) _ rfl ht rfl rfl rfl (faultClear_range hb)
  · exact exec_answered_changed (.faultMask c.number mask k.code) _ rfl ht rfl rfl rfl (faultMask_code (s := s.owe) c k hm) rfl
  · exact exec_answered (.faultMask b mask k) _ rfl ht rfl rfl rfl (faultMask_range h)

end

section
/-! A command's frame taken byte by byte, and the complete frame tested as its row (R166 to R168, R172). -/

namespace Sys2Proof.Machine

open Sys2Proof

variable {s : State} {b : U8} {tag : U8} {c : HostCommand} {f rx rest : Bytes}

/-! ### A frame being received -/

/-- A frame is being received: its bytes up to now stand in `rx`, and the gap timer runs (R166). -/
def State.receiving (s : State) (framer : FramerState) (rx : Bytes) : State :=
  s.setLine { s.line with framer := framer, rx := rx, gapRunning := true }

/-- A string of bytes begins with its first: what SERVER_BYTE leaves takes the rest. -/
theorem feedBytes_cons {t : State} (h : exec (.serverByte b) s = .next t) : feedBytes (b :: rest) s = feedBytes rest t := by
  have hbyte : execServerByte b s = .next t := h
  rw [feedBytes, List.foldl_cons, hbyte]
  rfl

section
variable (hlive : s.live = true)
include hlive

theorem exec_serverByte_starts (hf : s.line.framer = .hunt) : exec (.serverByte 0xA5) s = .next (s.receiving .length [0xA5]) := by
  rw [exec_serverByte_hunt hlive hf, if_pos rfl]
  rfl

theorem exec_serverByte_receiving_first (h : rx.length = 1) :
    exec (.serverByte b) (s.receiving .length rx) = .next (s.receiving .length (rx ++ [b])) := by
  rw [exec_serverByte_length (s := s.receiving .length rx) hlive rfl, State.lengthByte_first (s := s.receiving .length rx) h]
  rfl

theorem exec_serverByte_receiving_good (h : rx.length = 2) (hg : lengthGood (rx ++ [b])) :
    exec (.serverByte b) (s.receiving .length rx) = .next (s.receiving .collect (rx ++ [b])) := by
  rw [exec_serverByte_length (s := s.receiving .length rx) hlive rfl, State.lengthByte_good (s := s.receiving .length rx) h hg]
  rfl

theorem exec_serverByte_receiving_more (h : (rx ++ [b]).length < leValue (((rx ++ [b]).drop 1).take 2) + 5) :
    exec (.serverByte b) (s.receiving .collect rx) = .next (s.receiving .collect (rx ++ [b])) := by
  rw [exec_serverByte_collect (s := s.receiving .collect rx) hlive rfl, State.collectByte_more (s := s.receiving .collect rx) h]
  rfl

/-- The last byte completes the frame; nothing of the reception is left in the framer (R167). -/
theorem exec_serverByte_receiving_last (h : leValue (((rx ++ [b]).drop 1).take 2) + 5 ≤ (rx ++ [b]).length) :
    exec (.serverByte b) (s.receiving .collect rx) = .next (s.completeFrame (rx ++ [b])) := by
  rw [exec_serverByte_collect (s := s.receiving .collect rx) hlive rfl, State.collectByte_last (s := s.receiving .collect rx) h]
  rfl

end

/-! ### The bytes of a frame -/

/-- Bytes behind the length bytes leave the length a frame gives. -/
theorem lengthField_append (h : 3 ≤ rx.length) : ((rx ++ rest).drop 1).take 2 = (rx.drop 1).take 2 := by
  rw [List.drop_append_of_le_length (by omega), List.take_append_of_le_length (by simp; omega)]

/-- COLLECT gathers the bytes behind the length bytes up to the last, which completes the frame (R166, R167). -/
theorem feedBytes_collect (hlive : s.live = true) (h3 : 3 ≤ rx.length)
    (hlength : leValue ((rx.drop 1).take 2) + 5 = (rx ++ b :: rest).length) :
    feedBytes (b :: rest) (s.receiving .collect rx) = s.completeFrame (rx ++ b :: rest) := by
  have hfield : ((rx ++ [b]).drop 1).take 2 = (rx.drop 1).take 2 := lengthField_append h3
  induction rest generalizing rx b with
  | nil =>
    rw [feedBytes_cons (exec_serverByte_receiving_last hlive (by rw [hfield, hlength]))]
    rfl
  | cons x rest ih =>
    have hmore : (rx ++ [b]).length < leValue (((rx ++ [b]).drop 1).take 2) + 5 := by
      rw [hfield, hlength]
      simp
    have hgrown : 3 ≤ (rx ++ [b]).length := by simp; omega
    rw [feedBytes_cons (exec_serverByte_receiving_more hlive hmore), ih hgrown (by rw [hfield, hlength]; simp)
      (lengthField_append hgrown), List.append_assoc]
    rfl

/-- The two length bytes spell every length a frame may give (R165, R166). -/
theorem leValue_lengthBytes {n : Nat} (h : n ≤ 1026) : leValue (le 2 n) = n := by
  rw [leValue_le]
  exact Nat.mod_eq_of_lt (by omega)

/-- A framer in HUNT takes a frame as long as its length bytes say, and checks it when the last byte is in (R166, R167). -/
theorem feedBytes_frame {lo hi : U8} (hlive : s.live = true) (hf : s.line.framer = .hunt) (hgood : lengthGood [0xA5, lo, hi])
    (hlength : leValue [lo, hi] + 5 = ([0xA5, lo, hi] ++ b :: rest).length) :
    feedBytes (0xA5 :: lo :: hi :: b :: rest) s = s.completeFrame (0xA5 :: lo :: hi :: b :: rest) :=
  calc feedBytes (0xA5 :: lo :: hi :: b :: rest) s
    _ = feedBytes (lo :: hi :: b :: rest) (s.receiving .length [0xA5]) := feedBytes_cons (exec_serverByte_starts hlive hf)
    _ = feedBytes (hi :: b :: rest) (s.receiving .length [0xA5, lo]) := feedBytes_cons (exec_serverByte_receiving_first hlive rfl)
    _ = feedBytes (b :: rest) (s.receiving .collect [0xA5, lo, hi]) :=
      feedBytes_cons (exec_serverByte_receiving_good hlive rfl hgood)
    _ = s.completeFrame (0xA5 :: lo :: hi :: b :: rest) := feedBytes_collect hlive le_rfl hlength

theorem feedBytes_frameOf {kind : U8} {body : Bytes} (hbody : body.length ≤ 1024) (hlive : s.live = true)
    (hf : s.line.framer = .hunt) : feedBytes (frameOf kind tag body) s = s.completeFrame (frameOf kind tag body) := by
  have hvalue : leValue (le 2 (body.length + 2)) = body.length + 2 := leValue_lengthBytes (by omega)
  refine feedBytes_frame hlive hf ?_ ?_
  · change 2 ≤ leValue (le 2 (body.length + 2)) ∧ leValue (le 2 (body.length + 2)) ≤ 1026
    omega
  · change leValue (le 2 (body.length + 2)) + 5 = (frameOf kind tag body).length
    rw [hvalue, frameOf_length]

/-! ### The complete frame -/

/-- A complete frame with a good CRC, the framer back in HUNT, is taken (R167). -/
theorem State.completeFrame_good (hcrc : frameCrcGood f = true) (hrest : s.line.hunting = s.line) :
    s.completeFrame f = s.takeFrame f := by
  rw [State.completeFrame]
  dsimp only
  rw [if_pos hcrc]
  exact congrArg (fun l => (s.setLine l).takeFrame f) hrest

/-- The whole frame of a well-formed command, taken while none is held, is its row (R168, R172). -/
theorem State.takeFrame_frame (hw : c.wf = true) (hlive : s.live = true) (hf : s.line.framer ≠ .held) :
    s.takeFrame (c.frame tag) = s.hostRow tag c := by
  rw [State.takeFrame]
  split
  · next hp => rw [State.deliver_frame hw, State.hostRow_taken hlive hf hp]
  · next hp => rw [State.hostRow_full hlive hf (Nat.not_lt.mp hp)]

end Sys2Proof.Machine

open Sys2Proof Sys2Proof.Machine

/-- Settles O8: the framer collects the frame, whose CRC is good, and a whole frame taken is its command's row. -/
theorem frameBytesActAsRow : Obligations.FrameBytesActAsRow := by
  intro c tag s hw hbody hlive hf hrx hgap
  have hrest : s.line.hunting = s.line := by rw [ServerLine.hunting, ← hf, ← hrx, ← hgap]
  have hfed : feedBytes (c.frame tag) s = s.completeFrame (c.frame tag) := feedBytes_frameOf hbody hlive hf
  have hcrc : frameCrcGood (c.frame tag) = true := frameCrcGood_frameOf ..
  rw [hfed, State.completeFrame_good hcrc hrest, State.takeFrame_frame hw hlive (by simp [hf])]

end

section
/-! SHIFT CLOSE, and the close list offered behind its reply and whenever a frame is sent (R173, R183). -/

namespace Sys2Proof.Machine

open Sys2Proof

variable {s : State} {tag : U8}

/-! ### The close list offered -/

/-- A frame queued takes one place of the outbound queue (R171). -/
theorem State.enqueue_places (f : Frame) : (s.enqueue f).line.places = s.line.places + 1 := by
  simp +arith [State.enqueue, ServerLine.places]

/-- How many entries of the close list an offer takes: while fewer than 48 places are taken (R183). -/
def State.closeOffered (s : State) : Nat := min s.run.closeList.length (48 - s.line.places)

/-- The state once the first `k` entries of the close list have been queued as SHIFT TOTALS (R183). -/
def State.closeListSent (s : State) (k : Nat) : State :=
  { s with
    run := { s.run with closeList := s.run.closeList.drop k }
    line := { s.line with queue := s.line.queue ++ (s.run.closeList.take k).map shiftTotalsNotice } }

theorem State.closeListSent_zero : s.closeListSent 0 = s := by
  simp [State.closeListSent]

/-- The state once one entry has left the close list, its SHIFT TOTALS queued (R183). -/
def State.entrySent (s : State) (e : CloseEntry) (rest : List CloseEntry) : State :=
  (s.setRun { s.run with closeList := rest }).enqueue (shiftTotalsNotice e)

section
variable {e : CloseEntry} {rest : List CloseEntry} (hlist : s.run.closeList = e :: rest)
include hlist

theorem State.closeListSent_succ (k : Nat) : s.closeListSent (k + 1) = (s.entrySent e rest).closeListSent k := by
  simp [State.closeListSent, State.entrySent, State.enqueue, State.setRun, State.setLine, hlist]

variable (hroom : s.line.places < 48)
include hroom

/-- With room below the limit the oldest entry counts, and the others behind it. -/
theorem State.closeOffered_succ : s.closeOffered = (s.entrySent e rest).closeOffered + 1 := by
  have hplaces : (s.entrySent e rest).line.places = s.line.places + 1 := State.enqueue_places _
  have hrest : (s.entrySent e rest).run.closeList = rest := rfl
  rw [State.closeOffered, State.closeOffered, hplaces, hrest, hlist, List.length_cons]
  omega

/-- Below the limit of the close list a notice is never dropped. -/
theorem offerWithin_room (n : Nat) : offerWithin (n + 1) s = offerWithin n (s.entrySent e rest) := by
  rw [offerWithin, hlist]
  dsimp only
  exact (if_pos hroom).trans (congrArg (offerWithin n) (State.offer_room _ _ (Nat.lt_trans hroom (by decide))))

end

/-- With no entry, or at the limit, an offer takes nothing. -/
theorem offerWithin_none (n : Nat) (h : s.run.closeList = [] ∨ 48 ≤ s.line.places) : offerWithin n s = s := by
  cases n with
  | zero => rfl
  | succ n =>
    rw [offerWithin]
    split
    · rfl
    · next hlist => exact if_neg (Nat.not_lt.mpr (h.resolve_left (by simp [hlist])))

theorem State.closeOffered_none (h : s.run.closeList = [] ∨ 48 ≤ s.line.places) : s.closeOffered = 0 := by
  rcases h with h | h <;> simp [State.closeOffered, h]

/-- An offer whose bound covers the close list queues the oldest entries up to the limit, and drops none. -/
theorem offerWithin_sent {n : Nat} (h : s.run.closeList.length ≤ n) : offerWithin n s = s.closeListSent s.closeOffered := by
  induction n generalizing s with
  | zero =>
    have hnone : s.closeOffered = 0 := State.closeOffered_none (.inl (List.eq_nil_of_length_eq_zero (Nat.le_zero.mp h)))
    rw [hnone, State.closeListSent_zero]
    rfl
  | succ n ih =>
    by_cases hnone : s.run.closeList = [] ∨ 48 ≤ s.line.places
    · rw [offerWithin_none _ hnone, State.closeOffered_none hnone, State.closeListSent_zero]
    · obtain ⟨hsome, hfull⟩ := not_or.mp hnone
      obtain ⟨e, rest, hlist⟩ := List.exists_cons_of_ne_nil hsome
      have hroom : s.line.places < 48 := Nat.not_le.mp hfull
      have hrest : (s.entrySent e rest).run.closeList.length ≤ n := by
        rw [hlist, List.length_cons] at h
        exact Nat.le_of_succ_le_succ h
      rw [offerWithin_room hlist hroom, ih hrest, State.closeOffered_succ hlist hroom, State.closeListSent_succ hlist]

theorem State.offerCloseList_sent : s.offerCloseList = s.closeListSent s.closeOffered := offerWithin_sent le_rfl

/-! ### SHIFT CLOSE -/

/-- The close list a SHIFT CLOSE makes (R183 step 3). -/
def State.closeEntries (s : State) : List CloseEntry := s.closingSlots.map fun i => closeEntryOf i (s.slot i)

/-- The state a SHIFT CLOSE leaves before its reply: the record written, the totals cleared, the close list made (R183). -/
def State.shiftClosed (s : State) : State :=
  { s with
    journal := s.journal.append s.run.clock (shiftClosedRecord s.radio.grandTotals)
    radio := s.radio.mapSlots SlotEntry.zeroed
    run := { s.run with closeList := s.closeEntries } }

theorem State.shiftClosed_slot (i : Slot) : s.shiftClosed.slot i = (s.slot i).zeroed := Radio.mapSlots_get ..

/-- A SHIFT CLOSE is refused BUSY (R183 step 1). -/
abbrev State.closeBusy (s : State) : Prop := s.run.hold = false ∨ s.tenders.pool ≠ [] ∨ s.run.closeList ≠ []

theorem shiftClose_busy (h : s.closeBusy) : shiftClose s = s.refuse .busy := by
  rw [shiftClose, if_pos (by simpa [or_assoc] using h)]

theorem shiftClose_closes (h : ¬s.closeBusy) :
    shiftClose s = (s.shiftClosed, .accepted (le 4 s.closeEntries.length ++ s.radio.grandTotals.bytes)) := by
  rw [shiftClose, if_neg (by simpa [or_assoc] using h)]
  rfl

/-- SHIFT CLOSE is answered as other commands are; one that is taken then offers the close list (R183). -/
theorem shiftCloseCommand_eq : shiftCloseCommand tag s =
    if (shiftClose s.owe).2.status = 0 then (s.answer 0x31 tag shiftClose).offerCloseList else s.answer 0x31 tag shiftClose := rfl

theorem shiftCloseCommand_busy (h : s.closeBusy) : shiftCloseCommand tag s = s.replied 0x31 tag (.refused .busy) := by
  have howner : shiftClose s.owe = s.owe.refuse .busy := shiftClose_busy h
  have hstatus : (Reply.refused .busy).status ≠ 0 := by decide
  rw [shiftCloseCommand_eq, if_neg (by rw [howner]; exact hstatus), State.answer_refuse howner]

/-- A SHIFT CLOSE that is taken replies, and offers the close list behind its reply. -/
theorem shiftCloseCommand_closes (h : ¬s.closeBusy) : shiftCloseCommand tag s =
    (s.shiftClosed.replied 0x31 tag
      (.accepted (le 4 s.closeEntries.length ++ s.radio.grandTotals.bytes))).offerCloseList := by
  have howner : shiftClose s.owe =
      (s.shiftClosed.owe, .accepted (le 4 s.closeEntries.length ++ s.radio.grandTotals.bytes)) := shiftClose_closes h
  rw [shiftCloseCommand_eq, if_pos (by rw [howner]; rfl), State.answer_quiet s howner le_rfl]

/-! ### FRAME_SENT -/

theorem exec_frameSent_sends {f : Frame} {rest : List Frame} (hlive : s.live = true) (hq : s.line.queue = f :: rest) :
    exec .frameSent s = .next (s.setLine { s.line with queue := rest, sent := some f }).offerCloseList := by
  rw [exec, execFrameSent, hlive, hq]

theorem exec_frameSent_idle (h : s.live = false ∨ s.line.queue = []) : exec .frameSent s = .next s := by
  rw [exec, execFrameSent]
  rcases h with h | h
  · rw [h]
  · rw [h]
    cases s.live <;> rfl

end Sys2Proof.Machine

open Sys2Proof Sys2Proof.Machine

/-- Settles O56: SHIFT CLOSE by its test, and the close list offered from the state behind the reply or behind the frame sent. -/
theorem shiftClosed : Obligations.ShiftClosed := by
  intro s tag count share tip entries notices
  refine ⟨fun ht hbusy => ?_, fun ht hhold hpool hlist => ?_, fun f rest hlive hq => ?_, exec_frameSent_idle⟩
  · rw [exec_taken (c := .shiftClose) rfl ht rfl rfl]
    exact congrArg _ (shiftCloseCommand_busy hbusy)
  · intro k reply
    have hfree : ¬s.closeBusy := by simp [hhold, hpool, hlist]
    have hoffered : (s.shiftClosed.replied 0x31 tag reply).closeOffered = k := by
      rw [State.closeOffered, State.replied, State.enqueue_places]
      rfl
    refine ⟨(s.shiftClosed.replied 0x31 tag reply).closeListSent k, ?_, rfl, State.shiftClosed_slot⟩
    rw [exec_taken (c := .shiftClose) rfl ht rfl rfl, ← hoffered, ← State.offerCloseList_sent]
    exact congrArg _ (shiftCloseCommand_closes hfree)
  · rw [exec_frameSent_sends hlive hq, State.offerCloseList_sent]
    rfl

end

section
/-! One step, by the queue: an empty queue idles, and the front of any other is executed on the rest (log 2, log 34). -/

namespace Sys2Proof.Machine

open Sys2Proof

variable {s : State}

theorem step_of_pending_nil (h : s.pending = []) : step s = .next s := by
  rw [step, h]

theorem step_of_pending_cons {c : Instr} {rest : List Instr} (h : s.pending = c :: rest) :
    step s = exec c (s.setPending rest) := by
  rw [step, h]

theorem State.setPending_setPending (x y : List Instr) : (s.setPending x).setPending y = s.setPending y := rfl

/-- The queue is replaced by its rest before the command at its front is executed. -/
theorem step_setPending_cons (c : Instr) (rest : List Instr) :
    step (s.setPending (c :: rest)) = exec c (s.setPending rest) := by
  rw [step_of_pending_cons (s.setPending_pending (c :: rest)), State.setPending_setPending]

end Sys2Proof.Machine

open Sys2Proof Sys2Proof.Machine

/-- Settles O1: the two cases of the queue. -/
theorem stepTakesFront : Obligations.StepTakesFront := by
  constructor
  · intro c rest s
    exact step_setPending_cons c rest
  · intro s hempty
    exact step_of_pending_nil hempty

end
